-- ==== Sys2Proof/Word.lean ====
section
/-! DEFINITION. The word types of the libdsmi transport core (spec 00_scope.md R13): a byte, a 16-bit and a
32-bit unsigned value. Counts, lengths, indices and offsets are natural numbers (R13). -/

namespace Sys2Proof

/-- R13: an unsigned 8-bit value. -/
abbrev Byte := BitVec 8

/-- R13: `u16`. -/
abbrev Word16 := BitVec 16

/-- R13: `u32`. -/
abbrev Word32 := BitVec 32

end Sys2Proof
end

