-- ==== Sys2Proof/Syntax.lean ====
section
/-! DEFINITION. The rows of spec/opcode_table.json as one inductive: the fifteen commands of 30_encoding.md R96,
the nine wire patterns of R103 to R105 and the four control frames of R108. Operands are those of R97; a field
the format reserves (R98) is no operand, so no term of `Instr` carries one. -/

namespace Sys2Proof

/-- One constructor per row of spec/opcode_table.json, in the table's order. -/
inductive Instr where
  /-- R240 `INIT` -/
  | init
  /-- R242 `SHUTDOWN` -/
  | shutdown
  /-- R243 `SETRATE rate` -/
  | setrate (rate : Word32)
  /-- R245 `WAIT` -/
  | wait
  /-- R244 `RDREG reg` -/
  | rdreg (reg : Byte)
  /-- R173 `WRITE b0, ..., bn-1` -/
  | write (data : List Byte)
  /-- R174 `WRITEB b0, ..., bn-1` -/
  | writeb (data : List Byte)
  /-- R175 `FLUSH` -/
  | flush
  /-- R150 `READ n` -/
  | read (n : Word16)
  /-- R151 `READLINE delim, n` -/
  | readline (delim : Byte) (n : Word16)
  /-- R152 `AVAIL` -/
  | avail
  /-- R160 `UNREAD b0, ..., bn-1` -/
  | unread (data : List Byte)
  /-- R200 `ENQP[.CAP] mask, b0, ..., bn-1` -/
  | enqp (cap : Bool) (mask : Word32) (frame : List Byte)
  /-- R201 `AWAITP t` -/
  | awaitp (t : Word16)
  /-- R203 `RDREPLY n` -/
  | rdreply (n : Word16)
  /-- R130: the byte 0x5C arrives outside the escape state. -/
  | rxEscape
  /-- R130: any byte arrives in the escape state. -/
  | rxLiteralAfterEscape (d : Byte)
  /-- R130: the byte 0x00 arrives outside the escape state. -/
  | rxNoise00
  /-- R130: the byte 0xFF arrives outside the escape state. -/
  | rxNoiseFF
  /-- R130: a byte other than 0x00, 0x5C and 0xFF arrives outside the escape state. -/
  | rxLiteral (d : Byte)
  /-- R131: the expansion of the data byte 0x00. -/
  | txEscape00
  /-- R131: the expansion of the data byte 0x5C. -/
  | txEscape5C
  /-- R131: a data byte other than 0x00 and 0x5C, sent unchanged. -/
  | txLiteral (b : Byte)
  /-- R221, R105: the filler byte. -/
  | txFiller
  /-- R108: the set-rate frame, sent by the pseudo-instruction `PEERRATE r` (R112). -/
  | setrateFrame (r : Word32)
  /-- R108: the firmware-version query, sent by the pseudo-instruction `VERQ` (R110) and by INIT (R241). -/
  | versionQuery
  /-- R108: the low-water notice, sent by the pseudo-instruction `WMLOW` (R111) and by LowCheck (R145). -/
  | wmLow
  /-- R108: the high-water notice, sent by the pseudo-instruction `WMHIGH` (R111) and by HighCheck (R142). -/
  | wmHigh
  deriving DecidableEq, Repr

/-- The fifteen rows that have an encoding on the command port (R96); the others are wire rows (R114). -/
def Instr.isCommand : Instr → Bool
  | .init => true
  | .shutdown => true
  | .setrate _ => true
  | .wait => true
  | .rdreg _ => true
  | .write _ => true
  | .writeb _ => true
  | .flush => true
  | .read _ => true
  | .readline _ _ => true
  | .avail => true
  | .unread _ => true
  | .enqp _ _ _ => true
  | .awaitp _ => true
  | .rdreply _ => true
  | .rxEscape => false
  | .rxLiteralAfterEscape _ => false
  | .rxNoise00 => false
  | .rxNoiseFF => false
  | .rxLiteral _ => false
  | .txEscape00 => false
  | .txEscape5C => false
  | .txLiteral _ => false
  | .txFiller => false
  | .setrateFrame _ => false
  | .versionQuery => false
  | .wmLow => false
  | .wmHigh => false

end Sys2Proof
end

