-- ==== Sys2Proof/WellFormed.lean ====
section
/-! DEFINITION. Which terms of `Instr` the encodings of 30_encoding.md admit: a payload's length fits the 16-bit
field N (R91, R94), and a wire row's byte is one its table row names (R103, R104). -/

namespace Sys2Proof

/-- R94: `N = 65535` is the longest payload. -/
def payloadFits (data : List Byte) : Bool := decide (data.length ≤ 65535)

/-- R130: a byte that outside the escape state is neither the marker nor noise. -/
def isPlainReceived (d : Byte) : Bool := d != 0x00 && d != 0x5C && d != 0xFF

/-- R131: a byte that goes to the wire unchanged. -/
def isPlainSent (b : Byte) : Bool := b != 0x00 && b != 0x5C

/-- The well-formed instructions. -/
def Instr.wellFormed : Instr → Bool
  | .init => true
  | .shutdown => true
  | .setrate _ => true
  | .wait => true
  | .rdreg _ => true
  | .write data => payloadFits data
  | .writeb data => payloadFits data
  | .flush => true
  | .read _ => true
  | .readline _ _ => true
  | .avail => true
  | .unread data => payloadFits data
  | .enqp _ _ frame => payloadFits frame
  | .awaitp _ => true
  | .rdreply _ => true
  | .rxEscape => true
  | .rxLiteralAfterEscape _ => true
  | .rxNoise00 => true
  | .rxNoiseFF => true
  | .rxLiteral d => isPlainReceived d
  | .txEscape00 => true
  | .txEscape5C => true
  | .txLiteral b => isPlainSent b
  | .txFiller => true
  | .setrateFrame _ => true
  | .versionQuery => true
  | .wmLow => true
  | .wmHigh => true

/-- `i` is well formed, as a proposition. -/
abbrev Instr.WellFormed (i : Instr) : Prop := i.wellFormed = true

end Sys2Proof
end

