-- ==== Sys2Proof/Decode.lean ====
section
/-! DEFINITION. Byte order (20_memory.md R76), the command-port decoder (30_encoding.md R91 to R99), the decoders
of the wire rows (40_framing.md R130, R131; R108), and after them the encoder written from the same tables. -/

namespace Sys2Proof

/-! ### Fixed values and byte order -/

/-- R9: `ESC_MARK`. -/
def escMark : Byte := 0x5C

/-- R9, R105: `FILLER`. -/
def filler : Byte := 0x00

/-- R9: `HDR_LEN`, the priority-frame header length. -/
def hdrLen : Nat := 2

/-- R13 (ASCII, D42): the tag `'b'` of the set-rate frame. -/
def tagRate : Byte := 0x62

/-- R13 (ASCII, D42): the tag `'v'` of the version query. -/
def tagVersion : Byte := 0x76

/-- R13 (ASCII, D42): the tag `'w'` of the watermark notices. -/
def tagWatermark : Byte := 0x77

/-- R76: a 16-bit field from its two bytes, the most significant first. -/
def be16 (hi lo : Byte) : Word16 := hi ++ lo

/-- R76: a 32-bit field from its four bytes, the most significant first. -/
def be32 (b3 b2 b1 b0 : Byte) : Word32 := b3 ++ b2 ++ b1 ++ b0

/-- R76: the bytes `v[15:8], v[7:0]`. -/
def bytes16 (v : Word16) : List Byte := [v.extractLsb' 8 8, v.extractLsb' 0 8]

/-- R76: the bytes `v[31:24], v[23:16], v[15:8], v[7:0]`. -/
def bytes32 (v : Word32) : List Byte :=
  [v.extractLsb' 24 8, v.extractLsb' 16 8, v.extractLsb' 8 8, v.extractLsb' 0 8]

/-! ### The command port -/

/-- R96: the defined opcodes. -/
inductive Op where
  | init | shutdown | setrate | wait | rdreg | write | writeb | flush
  | read | readline | avail | unread | enqp | awaitp | rdreply
  deriving DecidableEq, Repr

/-- R95: the seven command formats. -/
inductive Format where
  | c0 | ca | cn | can | cx | cp | cxp
  deriving DecidableEq, Repr

/-- R96: the opcode map, mnemonic to OP. -/
def Op.byte : Op → Byte
  | .init => 0x01
  | .shutdown => 0x02
  | .setrate => 0x03
  | .wait => 0x04
  | .rdreg => 0x05
  | .write => 0x10
  | .writeb => 0x11
  | .flush => 0x12
  | .read => 0x20
  | .readline => 0x21
  | .avail => 0x22
  | .unread => 0x23
  | .enqp => 0x30
  | .awaitp => 0x31
  | .rdreply => 0x32

/-- R96: the opcode map, OP to mnemonic; every other value of OP is undefined. -/
def Op.ofByte (b : Byte) : Option Op :=
  match b.toNat with
  | 0x01 => some .init
  | 0x02 => some .shutdown
  | 0x03 => some .setrate
  | 0x04 => some .wait
  | 0x05 => some .rdreg
  | 0x10 => some .write
  | 0x11 => some .writeb
  | 0x12 => some .flush
  | 0x20 => some .read
  | 0x21 => some .readline
  | 0x22 => some .avail
  | 0x23 => some .unread
  | 0x30 => some .enqp
  | 0x31 => some .awaitp
  | 0x32 => some .rdreply
  | _ => none

/-- R95, R96: the format of each opcode. -/
def Op.format : Op → Format
  | .init => .c0
  | .shutdown => .c0
  | .setrate => .cx
  | .wait => .c0
  | .rdreg => .ca
  | .write => .cp
  | .writeb => .cp
  | .flush => .c0
  | .read => .cn
  | .readline => .can
  | .avail => .c0
  | .unread => .cp
  | .enqp => .cxp
  | .awaitp => .cn
  | .rdreply => .cn

/-- R92: whether the format has the extension word X. -/
def Format.hasX : Format → Bool
  | .cx => true
  | .cxp => true
  | .c0 => false
  | .ca => false
  | .cn => false
  | .can => false
  | .cp => false

/-- R93: whether the format has N payload bytes. -/
def Format.hasPayload : Format → Bool
  | .cp => true
  | .cxp => true
  | .c0 => false
  | .ca => false
  | .cn => false
  | .can => false
  | .cx => false

/-- R94: the bytes that follow the header: `(4 if OP has X) + (N if OP has a payload)`. -/
def Format.bodyLength (f : Format) (n : Word16) : Nat :=
  (if f.hasX then 4 else 0) + (if f.hasPayload then n.toNat else 0)

/-- R98 item 2: every field the format requires to be 0 is 0. -/
def Format.reservedClear (f : Format) (aux : Byte) (n : Word16) : Bool :=
  match f with
  | .c0 => aux == 0 && n == 0
  | .ca => n == 0
  | .cn => aux == 0
  | .can => true
  | .cx => aux == 0 && n == 0
  | .cp => aux == 0
  | .cxp => aux.extractLsb' 1 7 == 0

/-- R92: the extension word of a body, the first four bytes after the header. -/
def extensionWord : List Byte → Word32
  | b3 :: b2 :: b1 :: b0 :: _ => be32 b3 b2 b1 b0
  | _ => 0

/-- R97: operand assembly. `body` is what follows the header: X where the format has one, then the payload. -/
def Op.instr (op : Op) (aux : Byte) (n : Word16) (body : List Byte) : Instr :=
  match op with
  | .init => .init
  | .shutdown => .shutdown
  | .setrate => .setrate (extensionWord body)
  | .wait => .wait
  | .rdreg => .rdreg aux
  | .write => .write body
  | .writeb => .writeb body
  | .flush => .flush
  | .read => .read n
  | .readline => .readline aux n
  | .avail => .avail
  | .unread => .unread body
  | .enqp => .enqp (aux.getLsbD 0) (extensionWord body) (body.drop 4)
  | .awaitp => .awaitp n
  | .rdreply => .rdreply n

/-- Why the command port turns a command away (R98); the core answers both with BAD_COMMAND. -/
inductive Reject where
  /-- R98 item 1: the OP is not in the map of R96. -/
  | undefinedOpcode (op : Byte)
  /-- R98 item 2: a reserved field of this defined opcode is nonzero. -/
  | reservedField (op : Op)
  deriving DecidableEq, Repr

/-- What the front of a command stream holds. -/
inductive Decoded where
  /-- a whole legal command and the bytes after it -/
  | instr (i : Instr) (rest : List Byte)
  /-- an illegal command, already consumed as R98 says, and the bytes after it -/
  | bad (why : Reject) (rest : List Byte)
  /-- the bytes sent so far do not yet make a whole command -/
  | incomplete
  deriving DecidableEq, Repr

/-- R91, R94, R98, R99 items 1 and 2: read one command from the front of the command stream. -/
def decode : List Byte → Decoded
  | opByte :: aux :: n1 :: n0 :: tail =>
    match Op.ofByte opByte with
    | none => .bad (.undefinedOpcode opByte) tail
    | some op =>
      let n := be16 n1 n0
      let need := op.format.bodyLength n
      if tail.length < need then .incomplete
      else if op.format.reservedClear aux n then .instr (op.instr aux n (tail.take need)) (tail.drop need)
      else .bad (.reservedField op) (tail.drop need)
  | _ => .incomplete

/-! ### The wire rows -/

/-- R103, R130: the row of a byte received outside a frame, from the escape state it meets. -/
def decodeRx (esc : Bool) (b : Byte) : Instr :=
  if esc then .rxLiteralAfterEscape b
  else if b = escMark then .rxEscape
  else if b = 0x00 then .rxNoise00
  else if b = 0xFF then .rxNoiseFF
  else .rxLiteral b

/-- R104, R105: the row at the front of the bytes a transmitter of ordinary data puts on the wire. A marker
followed by neither 0x00 nor 0x5C is no row of R131. -/
def decodeTx : List Byte → Option (Instr × List Byte)
  | [] => none
  | b :: rest =>
    if b = escMark then
      match rest with
      | c :: rest' =>
        if c = 0x00 then some (.txEscape00, rest')
        else if c = escMark then some (.txEscape5C, rest')
        else none
      | [] => none
    else if b = filler then some (.txFiller, rest)
    else some (.txLiteral b, rest)

/-- R108: the control frame a byte sequence is, if it is one. -/
def decodeFrame : List Byte → Option Instr
  | [m, t, p] =>
    if m = escMark ∧ t = tagVersion ∧ p = 0x00 then some .versionQuery
    else if m = escMark ∧ t = tagWatermark ∧ p = 0x00 then some .wmLow
    else if m = escMark ∧ t = tagWatermark ∧ p = 0x01 then some .wmHigh
    else none
  | [m, t, r3, r2, r1, r0] =>
    if m = escMark ∧ t = tagRate then some (.setrateFrame (be32 r3 r2 r1 r0)) else none
  | _ => none

/-! ### The encoder -/

/-- R91, R92, R93: a command's header, then X, then the payload. -/
def commandBytes (op : Op) (aux : Byte) (n : Word16) (x payload : List Byte) : List Byte :=
  op.byte :: aux :: bytes16 n ++ x ++ payload

/-- R97: the payload length as the field N. -/
def payloadLength (data : List Byte) : Word16 := BitVec.ofNat 16 data.length

/-- The bytes of a row: a command's bytes on the command port (R109), a wire row's on the wire (R104, R105),
a control frame's in OUT (R108). -/
def encode : Instr → List Byte
  | .init => commandBytes .init 0 0 [] []
  | .shutdown => commandBytes .shutdown 0 0 [] []
  | .setrate rate => commandBytes .setrate 0 0 (bytes32 rate) []
  | .wait => commandBytes .wait 0 0 [] []
  | .rdreg reg => commandBytes .rdreg reg 0 [] []
  | .write data => commandBytes .write 0 (payloadLength data) [] data
  | .writeb data => commandBytes .writeb 0 (payloadLength data) [] data
  | .flush => commandBytes .flush 0 0 [] []
  | .read n => commandBytes .read 0 n [] []
  | .readline delim n => commandBytes .readline delim n [] []
  | .avail => commandBytes .avail 0 0 [] []
  | .unread data => commandBytes .unread 0 (payloadLength data) [] data
  | .enqp cap mask frame => commandBytes .enqp (if cap then 1 else 0) (payloadLength frame) (bytes32 mask) frame
  | .awaitp t => commandBytes .awaitp 0 t [] []
  | .rdreply n => commandBytes .rdreply 0 n [] []
  | .rxEscape => [escMark]
  | .rxLiteralAfterEscape d => [d]
  | .rxNoise00 => [0x00]
  | .rxNoiseFF => [0xFF]
  | .rxLiteral d => [d]
  | .txEscape00 => [escMark, 0x00]
  | .txEscape5C => [escMark, escMark]
  | .txLiteral b => [b]
  | .txFiller => [filler]
  | .setrateFrame r => [escMark, tagRate] ++ bytes32 r
  | .versionQuery => [escMark, tagVersion, 0x00]
  | .wmLow => [escMark, tagWatermark, 0x00]
  | .wmHigh => [escMark, tagWatermark, 0x01]

/-! ### The words of the opcode table -/

/-- The `k` bytes of a table row's word: the table writes a row as one number whose most significant byte
comes first (R76; log entry 10). -/
def wordBytes : Nat → Nat → List Byte
  | 0, _ => []
  | k + 1, w => BitVec.ofNat 8 (w >>> (8 * k)) :: wordBytes k w

/-- A 32-bit table word as a whole command: its header bytes, then as many zero bytes as R94 asks for. -/
def tableCommand (w : Nat) : List Byte :=
  let header := wordBytes 4 w
  match header with
  | [opByte, _, n1, n0] =>
    match Op.ofByte opByte with
    | some op => header ++ List.replicate (op.format.bodyLength (be16 n1 n0)) 0
    | none => header
  | _ => header

/-- The bytes of a control frame's table word: three bytes, or the six of the set-rate frame, whose row the
table pads to eight bytes. -/
def tableFrame (nbits w : Nat) : List Byte :=
  if nbits = 64 then (wordBytes 8 w).take 6 else wordBytes (nbits / 8) w

/-- The instruction the decoders read from a word of the opcode table, by the width the table gives the row:
32 bits a command (`decode`), 8 bits a received byte outside the escape state (`decodeRx`), 16 bits an escape
pair (`decodeTx`), 24, 48 or 64 bits a control frame (`decodeFrame`). Log entry 10. -/
def decodeTableWord (nbits w : Nat) : Option Instr :=
  match nbits with
  | 8 =>
    match wordBytes 1 w with
    | [b] => some (decodeRx false b)
    | _ => none
  | 16 =>
    match decodeTx (wordBytes 2 w) with
    | some (i, []) => some i
    | _ => none
  | 32 =>
    match decode (tableCommand w) with
    | .instr i [] => some i
    | _ => none
  | 24 => decodeFrame (tableFrame 24 w)
  | 48 => decodeFrame (tableFrame 48 w)
  | 64 => decodeFrame (tableFrame 64 w)
  | _ => none

end Sys2Proof
end

