-- ==== Sys2Proof/Config.lean ====
section
/-! DEFINITION. What an implementation fixes and what the environment draws: the build parameters of
00_scope.md R8, the agents' turns of R11, and the free values (bodyless constants) that stand for every draw no
list of the state has placed (R11, R12; log entries 2, 3, 4 and 6). -/

namespace Sys2Proof

/-- R17, R40: a timer identity as `TimerProbe()` returns it. An identity is known to the core only through
`TIMER_CODE`, which is injective and nonzero (R8), so it is represented by that code (DEDUCED, log entry 5). -/
structure TimerId where
  code : Word32
  nonzero : code ≠ 0
  deriving DecidableEq, Repr

/-- R274: the two interrupt sources. -/
inductive Source where
  /-- the periodic clock -/
  | clk
  /-- the link-state-change signal -/
  | lnk
  deriving DecidableEq, Repr

/-- R11: whose step comes next. R12 admits every interleaving, so a run is driven by any sequence of turns; a
turn given to an agent whose step is not enabled passes without effect (log entry 3). -/
inductive Turn where
  /-- Host: it reads the whole response that stands on the response port (R90). -/
  | hostRead
  /-- Command unit: the next segment of the current command, or the first segment of the next one (R84). -/
  | command
  /-- Exchange unit: one exchange transaction serving this source (R220). -/
  | exchange (src : Source)
  /-- Timer: the periodic clock fires (R276). -/
  | timer
  /-- Peer: a link-state-change event (R277). -/
  | linkChange
  /-- Peer or link: a link reset, which changes no state element (R302). -/
  | linkReset
  /-- Platform: a time-unit pulse (R281). -/
  | pulse
  deriving DecidableEq, Repr, Inhabited

/-- One point of the parameter RATE_FN (R8): a requested rate and what the platform's function answers. -/
structure RateEntry where
  rate : Word32
  divider : Word32
  achieved : Word32
  deriving DecidableEq, Repr

/-- R72: where the platform places a port in the host's address space: the three places the rule names, and any
other, by a number of the platform's own. The spec leaves the form of a place open (DESIGN CHOICE, log entry 14). -/
inductive PortPlace where
  /-- a memory-mapped register -/
  | memoryMapped (address : Nat)
  /-- an I/O port -/
  | ioPort (number : Nat)
  /-- a FIFO -/
  | fifo (number : Nat)
  /-- a place of another kind -/
  | other (number : Nat)
  deriving DecidableEq, Repr

/-- R8, R72, D2, parameter PORT_BINDING: where the platform places the command and the response port. -/
structure PortBinding where
  command : PortPlace
  response : PortPlace
  deriving DecidableEq, Repr

/-- R8: the parameters the core is built with. No step changes them. `rateTable` lists points of RATE_FN;
at every other rate the function's value is free (`Config.freeRate`). `inMargin` stores no byte (D13, R143).
`portBinding` (PORT_BINDING, R72, D2) and `timeUnit` (TIME_UNIT, R281, D26: the duration of one time-unit pulse, in
a measure of the platform's own) are read by no rule, as R8 says, and the table constrains neither. TIMER_CODE is
`TimerId.code` (log entry 5). -/
structure Params where
  inCap : Nat
  inMargin : Nat
  outCap : Nat
  outMargin : Nat
  evictK : Nat
  hiPct : Nat
  loPct : Nat
  initRetries : Nat
  initTimeout : Nat
  verMask : Word32
  defaultRate : Word32
  rateTable : List RateEntry
  portBinding : PortBinding
  timeUnit : Nat
  deriving DecidableEq, Repr

/-- R8: `OUT_TOTAL = OUT_CAP + OUT_MARGIN`. -/
def Params.outTotal (p : Params) : Nat := p.outCap + p.outMargin

/-- R8, the constraint column (D47). `IN_MARGIN`, `OUT_MARGIN` and `INIT_RETRIES` are at least 0 by their type;
PORT_BINDING and TIME_UNIT have no constraint. -/
structure Params.Valid (p : Params) : Prop where
  inCap_pos : 1 ≤ p.inCap
  inCap_lt : p.inCap < 2 ^ 24
  outCap_ge : 2 ≤ p.outCap
  outTotal_ge : 3 ≤ p.outTotal
  outTotal_le : p.outTotal ≤ 65535
  evictK_pos : 1 ≤ p.evictK
  evictK_le : p.evictK ≤ p.inCap
  hiPct_le : p.hiPct ≤ 100
  loPct_le : p.loPct ≤ 100
  initRetries_le : p.initRetries ≤ 255
  initTimeout_le : p.initTimeout ≤ 65535
  defaultRate_pos : p.defaultRate ≠ 0

namespace Config

/-- R12: the turn taken when `Env.turns` places none: any turn. Free value (log entry 3). -/
opaque freeTurn : Nat → Turn

/-- R222, I8: the byte the Peer returns when `Env.peerBytes` places none: any byte. Free value (log entry 4). -/
opaque freePeerByte : Nat → Byte

/-- R17, I11: the answer of `TimerProbe()` when `Env.probes` places none: any timer or none. Free value
(log entry 4). -/
opaque freeProbe : Nat → Option TimerId

/-- R8, I4: RATE_FN at a rate that `Params.rateTable` does not list, as (divider, achieved). Free value
(log entry 6). -/
opaque freeRate : Word32 → Word32 × Word32

/-- The parameter values of 95_test_vectors.md section 1, the only configuration the spec gives numbers for.
`State.reset` is built with them (DESIGN CHOICE, unsafe, log entry 1). It gives none for PORT_BINDING and TIME_UNIT:
those two are the model's (DESIGN CHOICE, log entry 14). -/
def testParams : Params where
  inCap := 20
  inMargin := 0
  outCap := 16
  outMargin := 4
  evictK := 8
  hiPct := 80
  loPct := 20
  initRetries := 3
  initTimeout := 0
  verMask := 0
  defaultRate := 1000
  rateTable := [⟨1000, 33, 1003⟩]
  portBinding := ⟨.other 0, .other 1⟩
  timeUnit := 1

end Config

end Sys2Proof
end

