-- ==== Sys2Proof/Machine/State.lean ====
section
/-! DEFINITION. The state of the core, every element of 10_state.md R33 to R49, beside the model's own two fields:
the build parameters (R8) and the environment's plain data (R30 calls both arguments or draws). -/

namespace Sys2Proof.Machine

/-- R49: a command that waits at an `await`, with its local variables. -/
inductive CurCmd where
  /-- WAIT (R245) -/
  | wait
  /-- WRITEB (R174): the bytes not yet accepted and the count accepted so far -/
  | writeb (rem : List Byte) (total : Nat)
  /-- FLUSH (R175) -/
  | flush
  /-- AWAITP (R201) and its time-out -/
  | awaitp (t : Nat)
  /-- INIT inside a version round trip (R240, R241): the attempt number -/
  | init (attempt : Nat)
  deriving DecidableEq, Repr

/-- The environment as plain data: the model's own fields, not state of the core (R30). Every list is free: a
statement holds for all of them, hence for every interleaving and every draw (R11, R12; log entries 2, 3 and 4). -/
structure Env where
  /-- the bytes the host will send on the command port, not yet consumed (R90) -/
  hostBytes : List Byte
  /-- the response on the response port that the host has not read (R100) -/
  response : List Byte
  /-- the response bytes the host has read, oldest first -/
  readByHost : List Byte
  /-- the turns to come (R12); when empty, `Config.freeTurn` -/
  turns : List Turn
  /-- the bytes the Peer will return (R222); when empty, `Config.freePeerByte` -/
  peerBytes : List Byte
  /-- the answers of `TimerProbe()` to come (R17); when empty, `Config.freeProbe` -/
  probes : List (Option TimerId)
  /-- how many draws were taken from the free values -/
  draws : Nat
  /-- the bytes the core has sent on the link, oldest first (R88) -/
  wire : List Byte
  deriving DecidableEq, Repr

/-- 10_state.md R30: the state of the core. -/
structure State where
  /-- the parameters the core is built with (R8); no step changes them -/
  cfg : Params
  /-- R33 `IN` -/
  inb : List Byte
  /-- R34 `OUT` -/
  out : List Byte
  /-- R35 `OUT_CUR` -/
  outCur : Nat
  /-- R36 `P_LEN` -/
  pLen : Nat
  /-- R36 `P_SENT` -/
  pSent : Nat
  /-- R36 `P_CAP` -/
  pCap : Bool
  /-- R36 `P_MASK` -/
  pMask : Word32
  /-- R37 `RPL` -/
  rpl : List Byte
  /-- R38 `WM_LATCH` -/
  wmLatch : Bool
  /-- R39 `ESC` -/
  esc : Bool
  /-- R40 `TIMER_ID` -/
  timerId : Option TimerId
  /-- R42 `LINK_EN` -/
  linkEn : Bool
  /-- R43 `CLK_ARMED` -/
  clkArmed : Bool
  /-- R44 `IE_CLK` -/
  ieClk : Bool
  /-- R44 `IE_LNK` -/
  ieLnk : Bool
  /-- R46 `CLK_PEND` -/
  clkPend : Bool
  /-- R46 `LNK_PEND` -/
  lnkPend : Bool
  /-- R47 `RATE` -/
  rate : Word32
  /-- R47 `DIVIDER` -/
  divider : Word32
  /-- R48 `VERSION` -/
  version : Byte
  /-- R49 `CUR_CMD` -/
  curCmd : Option CurCmd
  /-- R49 `TICK_SEEN` -/
  tickSeen : Bool
  /-- R49 `TU_COUNT` -/
  tuCount : Word16
  /-- the environment (the model's own field) -/
  env : Env
  deriving DecidableEq, Repr

/-- No step faults: R271, the core raises no synchronous trap or exception and reports every error in a
response. The type is empty; that is safe, since the rules give every step an effect. -/
inductive Fault where
  deriving DecidableEq, Repr

/-- Why an instruction has no meaning. -/
inductive Refusal where
  /-- raised by an arm of `exec` whose instruction has no meaning yet, and by nothing else: safe. No arm raises
  it now. -/
  | notModelled (mnemonic : String)
  deriving DecidableEq, Repr

/-- An environment that has placed nothing. -/
def Env.empty : Env where
  hostBytes := []
  response := []
  readByHost := []
  turns := []
  peerBytes := []
  probes := []
  draws := 0
  wire := []

/-- R52, R300: every element after power-on reset of a core built with the parameters `p`. -/
def State.resetWith (p : Params) : State where
  cfg := p
  inb := []
  out := []
  outCur := 0
  pLen := 0
  pSent := 0
  pCap := false
  pMask := 0
  rpl := List.replicate p.outTotal 0
  wmLatch := false
  esc := false
  timerId := none
  linkEn := false
  clkArmed := false
  ieClk := false
  ieLnk := false
  clkPend := false
  lnkPend := false
  rate := 0
  divider := 0
  version := 0
  curCmd := none
  tickSeen := false
  tuCount := 0
  env := Env.empty

/-- The machine right after power-on reset, built with the parameters of 95_test_vectors.md (log entry 1). -/
def State.reset : State := State.resetWith Config.testParams

end Sys2Proof.Machine
end

