-- ==== Sys2Proof/Machine/Operands.lean ====
section
/-! DEFINITION. Operand forms: the status codes and the response format (60_exceptions.md R270, 30_encoding.md
R100), the control frames the core builds (R108), the escape expansion and the receive filter (40_framing.md R130,
R131), and the values derived from the parameters (00_scope.md R8, R10). -/

namespace Sys2Proof.Machine

/-- R270: the statuses a command can finish with. -/
inductive Status where
  | ok | shortWrite | priorityRejected | priorityTimeout | requeueRejected | notFound
  | resourceUnavailable | deviceNotResponding | closed | alreadyOpen | badCommand
  deriving DecidableEq, Repr

/-- R270: the status codes; 0x0B to 0xFF are never produced. -/
def Status.code : Status → Byte
  | .ok => 0x00
  | .shortWrite => 0x01
  | .priorityRejected => 0x02
  | .priorityTimeout => 0x03
  | .requeueRejected => 0x04
  | .notFound => 0x05
  | .resourceUnavailable => 0x06
  | .deviceNotResponding => 0x07
  | .closed => 0x08
  | .alreadyOpen => 0x09
  | .badCommand => 0x0A

/-- R100: the bytes of a response: STATUS, 0x00, L, V, then L data bytes. -/
def responseBytes (st : Status) (v : Word32) (data : List Byte) : List Byte :=
  st.code :: 0x00 :: bytes16 (BitVec.ofNat 16 data.length) ++ bytes32 v ++ data

/-- R13, R100: a count as the 32-bit value V of a response. -/
def countValue (n : Nat) : Word32 := BitVec.ofNat 32 n

/-- R108, R241: the version query. -/
def versionFrame : List Byte := encode .versionQuery

/-- R108, R145: the low-water notice. -/
def lowWaterFrame : List Byte := encode .wmLow

/-- R108, R142: the high-water notice. -/
def highWaterFrame : List Byte := encode .wmHigh

/-- R131 `Escape`: the one or two bytes that stand for a source byte on the wire. -/
def escape (b : Byte) : List Byte := if b = 0x00 ∨ b = escMark then [escMark, b] else [b]

/-- R130 `Unescape`: what a received byte emits in the escape state `esc`, and the escape state it leaves. -/
def unescape (b : Byte) (esc : Bool) : Option Byte × Bool :=
  if esc = false ∧ b = escMark then (none, true)
  else if esc = true then (some b, false)
  else if b = 0x00 ∨ b = 0xFF then (none, false)
  else (some b, false)

/-- R10: `HI_MARK = floor(IN_CAP * HI_PCT / 100)`. -/
def hiMark (p : Params) : Nat := p.inCap * p.hiPct / 100

/-- R10: `LO_MARK = floor(IN_CAP * LO_PCT / 100)`. -/
def loMark (p : Params) : Nat := p.inCap * p.loPct / 100

/-- R8: RATE_FN, as (divider, achieved rate): the first point listed for the rate, else the free value. -/
def rateFn (p : Params) (rate : Word32) : Word32 × Word32 :=
  match p.rateTable.find? (fun e => e.rate == rate) with
  | some e => (e.divider, e.achieved)
  | none => Config.freeRate rate

/-- R51, R8: what register TIMER reads: 0 when closed, else TIMER_CODE of the timer. -/
def timerCode : Option TimerId → Word32
  | none => 0
  | some t => t.code

/-- R151: the least offset below the window `w` at which `delim` stands in `s`. -/
def findDelimiter (delim : Byte) (w : Nat) (s : List Byte) : Option Nat :=
  (s.take w).findIdx? (fun b => b == delim)

end Sys2Proof.Machine
end

