-- ==== Sys2Proof/Machine/Flags.lean ====
section
/-! DEFINITION. The one-bit conditions the rules test, and the register view computed from the state (10_state.md
R41, R45, R51; 41_inbound.md R142, R145; 43_priority.md R201; 60_exceptions.md R276). -/

namespace Sys2Proof.Machine

/-- R41: the core is open. -/
def State.isOpen (s : State) : Bool := s.timerId.isSome

/-- R45: a priority frame is in flight. -/
def State.inFlight (s : State) : Bool := decide (s.pSent < s.pLen)

/-- R175: every queued byte has been transmitted. -/
def State.drained (s : State) : Bool := decide (s.outCur = s.out.length)

/-- R142: the test of HighCheck. -/
def State.highDue (s : State) : Bool :=
  decide (s.cfg.hiPct ≠ 0) && decide (hiMark s.cfg ≤ s.inb.length) && !s.wmLatch

/-- R145: the test of LowCheck. -/
def State.lowDue (s : State) : Bool :=
  decide (s.cfg.loPct ≠ 0) && decide (s.inb.length ≤ loMark s.cfg) && s.wmLatch

/-- R201, R241: `t` time-units have been counted, where 0 stands for no time-out. -/
def State.timedOut (s : State) (t : Nat) : Bool := decide (t ≠ 0) && decide (t ≤ s.tuCount.toNat)

/-- R276: the Timer may fire. -/
def State.timerDue (s : State) : Bool := s.isOpen && s.clkArmed && s.ieClk

/-- R46: the pending bit of a source. -/
def State.pending (s : State) : Source → Bool
  | .clk => s.clkPend
  | .lnk => s.lnkPend

/-- R220: a transaction serving `src` may run. -/
def State.exchangeDue (s : State) (src : Source) : Bool := s.isOpen && s.pending src

/-- R19: the condition of the `await` at which a command waits (R174, R175, R201, R241, R245). -/
def State.awaitHolds (s : State) : CurCmd → Bool
  | .wait => s.tickSeen
  | .writeb _ _ => s.tickSeen
  | .flush => s.drained
  | .awaitp t => !s.inFlight || s.timedOut t
  | .init _ => !s.inFlight || s.timedOut s.cfg.initTimeout

/-- R51: register STATUS, written from bit 31 down to bit 0. -/
def State.statusWord (s : State) : Word32 :=
  0#20 ++ BitVec.ofBool s.tickSeen ++ BitVec.ofBool s.pCap ++ BitVec.ofBool s.inFlight
    ++ BitVec.ofBool s.wmLatch ++ BitVec.ofBool s.esc ++ BitVec.ofBool s.lnkPend ++ BitVec.ofBool s.clkPend
    ++ BitVec.ofBool s.ieLnk ++ BitVec.ofBool s.ieClk ++ BitVec.ofBool s.clkArmed ++ BitVec.ofBool s.linkEn
    ++ BitVec.ofBool s.isOpen

/-- R51: a count in the low `w` bits of a 32-bit register, the other bits 0. -/
def lowField (w n : Nat) : Word32 := (BitVec.ofNat w n).setWidth 32

/-- R51: the register view; `none` for a reserved register number (R50). -/
def State.registerView (s : State) (reg : Byte) : Option Word32 :=
  match reg.toNat with
  | 0x00 => some s.statusWord
  | 0x01 => some (lowField 24 s.inb.length)
  | 0x02 => some (lowField 16 s.out.length)
  | 0x03 => some (lowField 16 s.outCur)
  | 0x04 => some (lowField 16 s.pLen)
  | 0x05 => some (lowField 16 s.pSent)
  | 0x06 => some s.pMask
  | 0x07 => some (lowField 24 (hiMark s.cfg))
  | 0x08 => some (lowField 24 (loMark s.cfg))
  | 0x09 => some s.rate
  | 0x0A => some s.divider
  | 0x0B => some (s.version.setWidth 32)
  | 0x0C => some (lowField 24 s.cfg.inCap)
  | 0x0D => some (lowField 16 s.cfg.outCap)
  | 0x0E => some (lowField 16 s.cfg.outTotal)
  | 0x0F => some (lowField 24 s.cfg.evictK)
  | 0x10 => some (timerCode s.timerId)
  | 0x11 => some (s.tuCount.setWidth 32)
  | _ => none

end Sys2Proof.Machine
end

