-- ==== Sys2Proof/Machine/Ops.lean ====
section
/-! DEFINITION. The shared operations over the state: completion and waiting (00_scope.md R18, R19), the draws
(R11), compaction and the escaped append (42_outbound.md R170 to R172), priority insertion and demotion
(43_priority.md R190, R201), the watermark checks and the append with eviction (41_inbound.md R140 to R145). The
core has no exception to take (60_exceptions.md R271): an error is a status `finish` reports, and the entry to the
interrupt context is the exchange transaction of Machine/Exchange.lean (R279). -/

namespace Sys2Proof.Machine

/-! ### Completion and waiting -/

/-- R18, R100 `finish(STATUS, value, data)`: the current command ends and its response stands on the response
port. -/
def State.finish (s : State) (st : Status) (v : Word32) (data : List Byte) : State :=
  { s with curCmd := none, env := { s.env with response := responseBytes st v data } }

/-- R18 `finish(STATUS)`. -/
def State.finishWith (s : State) (st : Status) : State := s.finish st 0 []

/-- R19 `await`: the segment ends and the command waits. -/
def State.await (s : State) (c : CurCmd) : State := { s with curCmd := some c }

/-- R99 item 3: a command other than INIT, SHUTDOWN and RDREG runs only while the core is open; closed, it
finishes CLOSED and nothing else changes. -/
def State.whenOpen (s : State) (run : State → State) : State :=
  if s.isOpen then run s else s.finishWith .closed

/-! ### Draws -/

/-- R12: the turn to take next. -/
def State.drawTurn (s : State) : Turn × State :=
  match s.env.turns with
  | t :: ts => (t, { s with env := { s.env with turns := ts } })
  | [] => (Config.freeTurn s.env.draws, { s with env := { s.env with draws := s.env.draws + 1 } })

/-- R222: the byte the Peer returns in this exchange. -/
def State.drawPeerByte (s : State) : Byte × State :=
  match s.env.peerBytes with
  | b :: bs => (b, { s with env := { s.env with peerBytes := bs } })
  | [] => (Config.freePeerByte s.env.draws, { s with env := { s.env with draws := s.env.draws + 1 } })

/-- R17 `TimerProbe()`. -/
def State.drawProbe (s : State) : Option TimerId × State :=
  match s.env.probes with
  | a :: as => (a, { s with env := { s.env with probes := as } })
  | [] => (Config.freeProbe s.env.draws, { s with env := { s.env with draws := s.env.draws + 1 } })

/-! ### The outbound buffer -/

/-- R170 `Compact`. -/
def State.compact (s : State) : State := { s with out := s.out.drop s.outCur, outCur := 0 }

/-- R171 `CompactIfIdle`. -/
def State.compactIfIdle (s : State) : State := if s.inFlight then s else s.compact

/-- R172: an expansion fits within OUT_CAP. -/
def State.fits (s : State) (e : List Byte) : Bool := decide (s.out.length + e.length ≤ s.cfg.outCap)

/-- R172 `OUT <- OUT ++ e`. -/
def State.push (s : State) (e : List Byte) : State := { s with out := s.out ++ e }

/-- R172: one turn of WriteCore's loop for one source byte whose expansion is `e`: appended whole, or not at
all. -/
def State.appendExpansion (s : State) (e : List Byte) : State := if s.fits e then s.push e else s

/-- R172: WriteCore's loop: the count of source bytes accepted, and the state after them. It stops at the first
byte whose expansion does not fit. -/
def State.writeLoop (s : State) : List Byte → Nat × State
  | [] => (0, s)
  | b :: bs =>
    if s.fits (escape b) then
      let r := (s.push (escape b)).writeLoop bs
      (r.1 + 1, r.2)
    else (0, s)

/-- R172 `WriteCore`. -/
def State.writeCore (s : State) (src : List Byte) : Nat × State := s.compactIfIdle.writeLoop src

/-! ### The priority channel -/

/-- R190: the insertion itself, for a frame whose length OUT_TOTAL admits. -/
def State.insertFrame (s : State) (frame : List Byte) (cap : Bool) (mask : Word32) : State :=
  let n := frame.length
  let c := s.compact
  let u := if n + c.out.length > c.cfg.outTotal then c.out.take (c.cfg.outTotal - n) else c.out
  { c with
    out := frame ++ u
    outCur := 0
    pLen := n
    pSent := 0
    pCap := cap
    pMask := mask
    rpl := if cap then frame ++ c.rpl.drop n else c.rpl }

/-- R190: the frame is not longer than OUT_TOTAL. -/
def State.frameFits (s : State) (frame : List Byte) : Bool := decide (frame.length ≤ s.cfg.outTotal)

/-- R190 `PrioInsert`: the status it returns and the state after it. -/
def State.prioInsert (s : State) (frame : List Byte) (cap : Bool) (mask : Word32) : Status × State :=
  if s.frameFits frame then (.ok, s.insertFrame frame cap mask) else (.priorityRejected, s)

/-- R201, R241: a time-out demotes the frame to ordinary data and re-arms the clock. -/
def State.demote (s : State) : State :=
  { s with outCur := s.pSent, pLen := 0, pSent := 0, pCap := false, pMask := 0, clkArmed := true }

/-! ### The inbound buffer and its watermarks -/

/-- R142 `HighCheck`. -/
def State.highCheck (s : State) : State :=
  if s.highDue then { (s.prioInsert highWaterFrame false 0).2 with wmLatch := true } else s

/-- R145 `LowCheck`. -/
def State.lowCheck (s : State) : State :=
  if s.lowDue then { (s.prioInsert lowWaterFrame false 0).2 with wmLatch := false } else s

/-- R140: a full IN loses its oldest block. -/
def State.evict (s : State) : State :=
  if s.inb.length ≥ s.cfg.inCap then { s with inb := s.inb.drop s.cfg.evictK } else s

/-- R140 `InAppend`. -/
def State.inAppend (s : State) (d : Byte) : State :=
  let e := s.evict
  State.highCheck { e with inb := e.inb ++ [d] }

/-- R150, R151: the first `k` bytes leave IN. -/
def State.dropInbound (s : State) (k : Nat) : State := { s with inb := s.inb.drop k }

/-! ### The link and the clock -/

/-- R240: the state INIT sets once the probe has returned `id`, up to the first version round trip. -/
def State.openCore (s : State) (id : TimerId) : State :=
  { s with
    timerId := some id
    inb := []
    out := []
    outCur := 0
    pLen := 0
    pSent := 0
    pCap := false
    pMask := 0
    rpl := List.replicate s.cfg.outTotal 0
    wmLatch := false
    esc := false
    version := 0
    clkPend := false
    lnkPend := false
    linkEn := true
    ieClk := true
    ieLnk := true
    divider := (rateFn s.cfg s.cfg.defaultRate).1
    rate := (rateFn s.cfg s.cfg.defaultRate).2
    clkArmed := true }

/-- R240 `InitFail` and R242 SHUTDOWN: the clock, both sources and the link are disabled and the timer is given
up. -/
def State.closeCore (s : State) : State :=
  { s with
    clkArmed := false
    ieClk := false
    ieLnk := false
    clkPend := false
    lnkPend := false
    linkEn := false
    timerId := none }

end Sys2Proof.Machine
end

