-- ==== Sys2Proof/Machine/Exchange.lean ====
section
/-! DEFINITION. The exchange transaction (44_exchange.md R220 to R224), which is also the entry to and the return
from the interrupt context (60_exceptions.md R279, R280), and the meanings of the nine wire rows. The meaning of a
wire row is the operation of its rule on its byte: under the row's condition it has the row's effect, and in any
other state the same rule says what that byte does (log entry 8). -/

namespace Sys2Proof.Machine

/-! ### The five steps -/

/-- R220: the served source's pending bit is cleared. -/
def State.clearPending (s : State) : Source → State
  | .clk => { s with clkPend := false }
  | .lnk => { s with lnkPend := false }

/-- R221: an untransmitted byte is queued at the cursor. -/
def State.txQueued (s : State) : Bool := decide (s.outCur < s.out.length)

/-- R221: the byte step 1 sends: the byte at the cursor, else the filler. -/
def State.txByte (s : State) : Byte := if s.txQueued then s.out.getD s.outCur filler else filler

/-- R221: step 1, and the sending half of R222: the byte goes to the link and the cursor passes it; a filler
does not move the cursor. -/
def State.transmit (s : State) : State :=
  { s with
    outCur := if s.txQueued then s.outCur + 1 else s.outCur
    env := { s.env with wire := s.env.wire ++ [s.txByte] } }

/-- R222: step 3, unconditional. -/
def State.rearm (s : State) : State := { s with clkArmed := true }

/-- R223, R195: the suspend mask names the frame offset `P_SENT`. -/
def State.suspends (s : State) : Bool :=
  let k := s.pLen - 1 - s.pSent
  decide (k < 32) && s.pMask.getLsbD k

/-- R223: step 4. -/
def State.priorityStep (s : State) (rx : Byte) : State :=
  { s with
    clkArmed := if s.suspends then false else s.clkArmed
    rpl := if hdrLen ≤ s.pSent ∧ s.pCap = true then s.rpl.set s.pSent rx else s.rpl
    pSent := s.pSent + 1 }

/-- R224: step 5. -/
def State.filterStep (s : State) (rx : Byte) : State :=
  let r := unescape rx s.esc
  let t := { s with esc := r.2 }
  match r.1 with
  | some d => t.inAppend d
  | none => t

/-- R220: the received byte goes to step 4 while a frame is in flight, else to step 5. -/
def State.receive (s : State) (rx : Byte) : State :=
  if s.inFlight then s.priorityStep rx else s.filterStep rx

/-! ### The transaction -/

/-- R220 to R222: the transaction up to the received byte. -/
def State.beginTransaction (s : State) (src : Source) : Byte × State :=
  let r := (s.clearPending src).transmit.drawPeerByte
  (r.1, r.2.rearm)

/-- R220: TICK_SEEN is set when steps 4 or 5 are done. -/
def State.endTransaction (s : State) : State := { s with tickSeen := true }

/-- R220: the whole transaction serving `src`. -/
def State.transaction (s : State) (src : Source) : State :=
  let r := s.beginTransaction src
  (r.2.receive r.1).endTransaction

/-! ### The received rows -/

/-- RX_ESCAPE (R130): the byte 0x5C arrives. -/
def execRxEscape (s : State) : Host.Outcome State Fault Refusal := .next (s.receive escMark)

/-- RX_LITERAL_AFTER_ESCAPE (R130): the byte `d` arrives. -/
def execRxLiteralAfterEscape (d : Byte) (s : State) : Host.Outcome State Fault Refusal := .next (s.receive d)

/-- RX_NOISE_00 (R130): the byte 0x00 arrives. -/
def execRxNoise00 (s : State) : Host.Outcome State Fault Refusal := .next (s.receive 0x00)

/-- RX_NOISE_FF (R130): the byte 0xFF arrives. -/
def execRxNoiseFF (s : State) : Host.Outcome State Fault Refusal := .next (s.receive 0xFF)

/-- RX_LITERAL (R130): the byte `d` arrives. -/
def execRxLiteral (d : Byte) (s : State) : Host.Outcome State Fault Refusal := .next (s.receive d)

/-! ### The transmitted rows -/

/-- TX_ESCAPE_00 (R131, R172): the write path appends the pair that stands for 0x00. -/
def execTxEscape00 (s : State) : Host.Outcome State Fault Refusal := .next (s.appendExpansion (escape 0x00))

/-- TX_ESCAPE_5C (R131, R172): the write path appends the pair that stands for 0x5C. -/
def execTxEscape5C (s : State) : Host.Outcome State Fault Refusal := .next (s.appendExpansion (escape escMark))

/-- TX_LITERAL (R131, R172): the write path appends the byte unchanged. -/
def execTxLiteral (b : Byte) (s : State) : Host.Outcome State Fault Refusal := .next (s.appendExpansion [b])

/-- TX_FILLER (R221, R105): the transmit step, which sends the filler when nothing is queued. -/
def execTxFiller (s : State) : Host.Outcome State Fault Refusal := .next s.transmit

end Sys2Proof.Machine
end

