-- ==== Sys2Proof/Machine/Inbound.lean ====
section
/-! DEFINITION. The read commands and UNREAD (41_inbound.md R150 to R152, R160). -/

namespace Sys2Proof.Machine

/-- R150, open. -/
def State.runRead (s : State) (n : Nat) : State :=
  let k := min n s.inb.length
  ((s.dropInbound k).lowCheck).finish .ok 0 (s.inb.take k)

/-- READ (R150). -/
def execRead (n : Word16) (s : State) : Host.Outcome State Fault Refusal :=
  .next (s.whenOpen (fun t => t.runRead n.toNat))

/-- R151, open. -/
def State.runReadline (s : State) (delim : Byte) (n : Nat) : State :=
  match findDelimiter delim (min n s.inb.length) s.inb with
  | some j => ((s.dropInbound (j + 1)).lowCheck).finish .ok 0 (s.inb.take (j + 1))
  | none => s.lowCheck.finishWith .notFound

/-- READLINE (R151). -/
def execReadline (delim : Byte) (n : Word16) (s : State) : Host.Outcome State Fault Refusal :=
  .next (s.whenOpen (fun t => t.runReadline delim n.toNat))

/-- AVAIL (R152). -/
def execAvail (s : State) : Host.Outcome State Fault Refusal :=
  .next (s.whenOpen (fun t => t.finish .ok (countValue t.inb.length) []))

/-- R160, open. -/
def State.runUnread (s : State) (data : List Byte) : State :=
  if s.inb.length + data.length > s.cfg.inCap then s.finishWith .requeueRejected
  else State.finishWith { s with inb := data ++ s.inb } .ok

/-- UNREAD (R160). -/
def execUnread (data : List Byte) (s : State) : Host.Outcome State Fault Refusal :=
  .next (s.whenOpen (fun t => t.runUnread data))

end Sys2Proof.Machine
end

