-- ==== Sys2Proof/Machine/Control.lean ====
section
/-! DEFINITION. The control commands (45_control.md R240 to R245) and the version round trip of INIT. -/

namespace Sys2Proof.Machine

/-! ### INIT -/

/-- R240 `InitFail`. -/
def State.initFail (s : State) : State := s.closeCore.finishWith .deviceNotResponding

/-- R241 `VersionRoundTrip` up to its `await`. -/
def State.startRoundTrip (s : State) : State :=
  { (s.prioInsert versionFrame true s.cfg.verMask).2 with tuCount := 0 }

/-- R240: the head of the loop after `a` round trips. -/
def State.initLoop (s : State) (a : Nat) : State :=
  if a = s.cfg.initRetries then s.initFail else s.startRoundTrip.await (.init (a + 1))

/-- R241: the end of the await: a round trip that timed out is demoted. -/
def State.endRoundTrip (s : State) : State := if s.inFlight then s.demote else s

/-- R240, R241: INIT's segment after the await of attempt `a`: the byte v = RPL[2] decides. -/
def State.resumeInit (s : State) (a : Nat) : State :=
  let e := s.endRoundTrip
  let v := e.rpl.getD 2 0
  if v = 0x00 then e.initFail
  else if v = 0xFF then e.initLoop a
  else State.finish { e with version := v } .ok (v.setWidth 32) []

/-- R240: INIT's first segment. -/
def State.runInit (s : State) : State :=
  if s.isOpen then s.finishWith .alreadyOpen
  else
    let p := s.drawProbe
    match p.1 with
    | none => p.2.finishWith .resourceUnavailable
    | some id => (p.2.openCore id).initLoop 0

/-- INIT (R240). -/
def execInit (s : State) : Host.Outcome State Fault Refusal := .next s.runInit

/-! ### SHUTDOWN -/

/-- SHUTDOWN (R242): closed, it has no effect but its response. -/
def execShutdown (s : State) : Host.Outcome State Fault Refusal :=
  .next (if s.isOpen then s.closeCore.finishWith .ok else s.finishWith .ok)

/-! ### SETRATE -/

/-- R243 `(d, a) <- RATE_FN(rate); DIVIDER <- d; RATE <- a`. -/
def State.setRate (s : State) (rate : Word32) : State :=
  { s with divider := (rateFn s.cfg rate).1, rate := (rateFn s.cfg rate).2 }

/-- R243, open. -/
def State.runSetrate (s : State) (rate : Word32) : State :=
  if rate = 0 then s.finishWith .badCommand
  else (s.setRate rate).finish .ok (rateFn s.cfg rate).2 []

/-- SETRATE (R243). -/
def execSetrate (rate : Word32) (s : State) : Host.Outcome State Fault Refusal :=
  .next (s.whenOpen (fun t => t.runSetrate rate))

/-! ### WAIT -/

/-- R245, R174 `TICK_SEEN <- 0`. -/
def State.clearTick (s : State) : State := { s with tickSeen := false }

/-- WAIT (R245): its first segment. -/
def execWait (s : State) : Host.Outcome State Fault Refusal :=
  .next (s.whenOpen (fun t => t.clearTick.await .wait))

/-- R245: WAIT's last segment. -/
def State.resumeWait (s : State) : State := s.finishWith .ok

/-! ### RDREG -/

/-- RDREG (R244), accepted while closed (R99). -/
def execRdreg (reg : Byte) (s : State) : Host.Outcome State Fault Refusal :=
  .next (match s.registerView reg with
    | some v => s.finish .ok v []
    | none => s.finishWith .badCommand)

end Sys2Proof.Machine
end

