-- ==== Sys2Proof/Machine/Outbound.lean ====
section
/-! DEFINITION. The write commands and FLUSH (42_outbound.md R173 to R175). -/

namespace Sys2Proof.Machine

/-- R173, open. -/
def State.runWrite (s : State) (data : List Byte) : State :=
  let r := s.writeCore data
  r.2.finish (if r.1 < data.length then .shortWrite else .ok) (countValue r.1) []

/-- WRITE (R173). -/
def execWrite (data : List Byte) (s : State) : Host.Outcome State Fault Refusal :=
  .next (s.whenOpen (fun t => t.runWrite data))

/-- R174: one pass of WRITEB's loop, which is one segment: `rem` is not yet accepted, `total` is. -/
def State.writebPass (s : State) (rem : List Byte) (total : Nat) : State :=
  let r := s.writeCore rem
  if rem.drop r.1 = [] then r.2.finish .ok (countValue (total + r.1)) []
  else r.2.clearTick.await (.writeb (rem.drop r.1) (total + r.1))

/-- WRITEB (R174): its first pass. -/
def execWriteb (data : List Byte) (s : State) : Host.Outcome State Fault Refusal :=
  .next (s.whenOpen (fun t => t.writebPass data 0))

/-- R175, open: FLUSH with OUT drained finishes in its first segment. -/
def State.runFlush (s : State) : State := if s.drained then s.finishWith .ok else s.await .flush

/-- FLUSH (R175). -/
def execFlush (s : State) : Host.Outcome State Fault Refusal := .next (s.whenOpen State.runFlush)

end Sys2Proof.Machine
end

