-- ==== Sys2Proof/Machine/Priority.lean ====
section
/-! DEFINITION. The priority commands (43_priority.md R200, R201, R203) and the meanings of the four control-frame
rows (30_encoding.md R108): each is the pseudo-instruction of R110 to R112 that sends the frame (log entry 9). The
core's own insertions of the same frames are R142, R145 and R241. -/

namespace Sys2Proof.Machine

/-- R200, open. -/
def State.runEnqp (s : State) (cap : Bool) (mask : Word32) (frame : List Byte) : State :=
  let r := s.prioInsert frame cap mask
  r.2.finishWith r.1

/-- ENQP (R200). -/
def execEnqp (cap : Bool) (mask : Word32) (frame : List Byte) (s : State) : Host.Outcome State Fault Refusal :=
  .next (s.whenOpen (fun t => t.runEnqp cap mask frame))

/-- R201: one pass of AWAITP's loop, which is one segment. Completion is tested before the time-out. -/
def State.awaitpPass (s : State) (t : Nat) : State :=
  if s.inFlight then
    if s.timedOut t then s.demote.finishWith .priorityTimeout else s.await (.awaitp t)
  else s.finishWith .ok

/-- R201, R241 `TU_COUNT <- 0`. -/
def State.clearTimeUnits (s : State) : State := { s with tuCount := 0 }

/-- AWAITP (R201). -/
def execAwaitp (t : Word16) (s : State) : Host.Outcome State Fault Refusal :=
  .next (s.whenOpen (fun u => u.clearTimeUnits.awaitpPass t.toNat))

/-- RDREPLY (R203). -/
def execRdreply (n : Word16) (s : State) : Host.Outcome State Fault Refusal :=
  .next (s.whenOpen (fun t => t.finish .ok 0 (t.rpl.take (min n.toNat t.cfg.outTotal))))

/-- SETRATE_FRAME (R108): the pseudo-instruction `PEERRATE r` (R112). -/
def execSetrateFrame (r : Word32) (s : State) : Host.Outcome State Fault Refusal :=
  .next (s.whenOpen (fun t => t.runEnqp false 0 (encode (.setrateFrame r))))

/-- VERSION_QUERY (R108): the pseudo-instruction `VERQ` (R110). -/
def execVersionQuery (s : State) : Host.Outcome State Fault Refusal :=
  .next (s.whenOpen (fun t => t.runEnqp true 0 versionFrame))

/-- WM_LOW (R108): the pseudo-instruction `WMLOW` (R111). -/
def execWmLow (s : State) : Host.Outcome State Fault Refusal :=
  .next (s.whenOpen (fun t => t.runEnqp false 0 lowWaterFrame))

/-- WM_HIGH (R108): the pseudo-instruction `WMHIGH` (R111). -/
def execWmHigh (s : State) : Host.Outcome State Fault Refusal :=
  .next (s.whenOpen (fun t => t.runEnqp false 0 highWaterFrame))

end Sys2Proof.Machine
end

