-- ==== Sys2Proof/Machine/Agents.lean ====
section
/-! DEFINITION. The steps of the agents beside `exec`: the environment's events (60_exceptions.md R276, R277, R281),
the Command unit's later segments (00_scope.md R19) and its reading of the command port (30_encoding.md R90, R98,
R99). -/

namespace Sys2Proof.Machine

/-! ### Events -/

/-- R276: the timer event. -/
def State.timerEvent (s : State) : State :=
  if s.timerDue then { s with clkArmed := false, clkPend := true } else s

/-- R277: the link-state-change event, absorbed when already pending (R278). -/
def State.linkChangeEvent (s : State) : State := if s.ieLnk then { s with lnkPend := true } else s

/-- R281: a time-unit pulse; the count saturates at 65535. -/
def State.pulseEvent (s : State) : State :=
  { s with tuCount := BitVec.ofNat 16 (min (s.tuCount.toNat + 1) 65535) }

/-- R90: the host reads the whole response. -/
def State.hostReadEvent (s : State) : State :=
  { s with env := { s.env with response := [], readByHost := s.env.readByHost ++ s.env.response } }

/-! ### The Command unit -/

/-- R19, R84: the next segment of a waiting command, from the `await` whose condition holds. -/
def State.resumeSegment (s : State) : CurCmd → State
  | .wait => s.resumeWait
  | .writeb rem total => s.writebPass rem total
  | .flush => s.finishWith .ok
  | .awaitp t => s.awaitpPass t
  | .init a => s.resumeInit a

/-- R19: a waiting command resumes when its condition holds and otherwise goes on waiting. -/
def State.resumeCommand (s : State) (c : CurCmd) : State :=
  if s.awaitHolds c then s.resumeSegment c else s

/-- What the idle Command unit finds on the command port. -/
inductive Fetched where
  /-- a legal command, taken from the port -/
  | run (i : Instr) (s : State)
  /-- an illegal command, taken from the port and answered (R98) -/
  | answered (s : State)
  /-- no whole command, or a response the host has not read (R90, I19) -/
  | idle

/-- `rest` is what the host has still to send. -/
def State.withHostBytes (s : State) (rest : List Byte) : State :=
  { s with env := { s.env with hostBytes := rest } }

/-- R90, R98, R99: the idle Command unit reads the next command. -/
def fetchCommand (s : State) : Fetched :=
  if s.env.response = [] then
    match decode s.env.hostBytes with
    | .instr i rest => .run i (s.withHostBytes rest)
    | .bad _ rest => .answered ((s.withHostBytes rest).finishWith .badCommand)
    | .incomplete => .idle
  else .idle

/-! ### How a word of the opcode table is placed (log entry 10) -/

/-- A state in which the next step is the Command unit's, idle, with these bytes first on the command port. -/
def State.placeCommand (s : State) (bytes : List Byte) : State :=
  { s with
    curCmd := none
    env := { s.env with response := [], hostBytes := bytes ++ s.env.hostBytes, turns := .command :: s.env.turns } }

/-- An open core: a closed one is given timer 1, the link and both interrupt enables (R42, R44). -/
def State.forceOpen (s : State) : State :=
  { s with
    timerId := some (s.timerId.getD ⟨1, by decide⟩)
    linkEn := true
    ieClk := true
    ieLnk := true }

/-- A state in which the next step is a transaction, outside any frame and outside the escape state, whose
received byte is `b`. -/
def State.placeReceived (s : State) (b : Byte) : State :=
  { s.forceOpen with
    clkPend := true
    esc := false
    pLen := 0
    pSent := 0
    env := { s.env with peerBytes := b :: s.env.peerBytes, turns := .exchange .clk :: s.env.turns } }

/-- The command that has a wire row put into OUT: WRITE of the source byte for an expansion (R131), the
pseudo-instruction's ENQP for a control frame (R110 to R112); `none` for a command and for a row no command
carries. -/
def carrier : Instr → Option Instr
  | .txEscape00 => some (.write [0x00])
  | .txEscape5C => some (.write [escMark])
  | .txLiteral b => some (.write [b])
  | .setrateFrame r => some (.enqp false 0 (encode (.setrateFrame r)))
  | .versionQuery => some (.enqp true 0 versionFrame)
  | .wmLow => some (.enqp false 0 lowWaterFrame)
  | .wmHigh => some (.enqp false 0 highWaterFrame)
  | .init => none
  | .shutdown => none
  | .setrate _ => none
  | .wait => none
  | .rdreg _ => none
  | .write _ => none
  | .writeb _ => none
  | .flush => none
  | .read _ => none
  | .readline _ _ => none
  | .avail => none
  | .unread _ => none
  | .enqp _ _ _ => none
  | .awaitp _ => none
  | .rdreply _ => none
  | .rxEscape => none
  | .rxLiteralAfterEscape _ => none
  | .rxNoise00 => none
  | .rxNoiseFF => none
  | .rxLiteral _ => none
  | .txFiller => none

/-- A word of `nbits` bits placed where the next step fetches it. -/
def State.placeWord (s : State) (nbits w : Nat) : State :=
  match nbits with
  | 8 => s.placeReceived (BitVec.ofNat 8 w)
  | 32 => s.placeCommand (tableCommand w)
  | _ =>
    match (decodeTableWord nbits w).bind carrier with
    | some i => s.forceOpen.placeCommand (encode i)
    | none => s

end Sys2Proof.Machine
end

