-- ==== Sys2Proof/Machine/Dispatch.lean ====
section
/-! DEFINITION. One arm per row of spec/opcode_table.json: a command's first segment (R84), a wire row's operation
(log entry 8), a control frame's pseudo-instruction (log entry 9). -/

namespace Sys2Proof.Machine

def exec (i : Instr) (s : State) : Host.Outcome State Fault Refusal :=
  match i with
  | .init => Sys2Proof.Machine.execInit s
  | .shutdown => Sys2Proof.Machine.execShutdown s
  | .setrate rate => Sys2Proof.Machine.execSetrate rate s
  | .wait => Sys2Proof.Machine.execWait s
  | .rdreg reg => Sys2Proof.Machine.execRdreg reg s
  | .write data => Sys2Proof.Machine.execWrite data s
  | .writeb data => Sys2Proof.Machine.execWriteb data s
  | .flush => Sys2Proof.Machine.execFlush s
  | .read n => Sys2Proof.Machine.execRead n s
  | .readline delim n => Sys2Proof.Machine.execReadline delim n s
  | .avail => Sys2Proof.Machine.execAvail s
  | .unread data => Sys2Proof.Machine.execUnread data s
  | .enqp cap mask frame => Sys2Proof.Machine.execEnqp cap mask frame s
  | .awaitp t => Sys2Proof.Machine.execAwaitp t s
  | .rdreply n => Sys2Proof.Machine.execRdreply n s
  | .rxEscape => Sys2Proof.Machine.execRxEscape s
  | .rxLiteralAfterEscape d => Sys2Proof.Machine.execRxLiteralAfterEscape d s
  | .rxNoise00 => Sys2Proof.Machine.execRxNoise00 s
  | .rxNoiseFF => Sys2Proof.Machine.execRxNoiseFF s
  | .rxLiteral d => Sys2Proof.Machine.execRxLiteral d s
  | .txEscape00 => Sys2Proof.Machine.execTxEscape00 s
  | .txEscape5C => Sys2Proof.Machine.execTxEscape5C s
  | .txLiteral b => Sys2Proof.Machine.execTxLiteral b s
  | .txFiller => Sys2Proof.Machine.execTxFiller s
  | .setrateFrame r => Sys2Proof.Machine.execSetrateFrame r s
  | .versionQuery => Sys2Proof.Machine.execVersionQuery s
  | .wmLow => Sys2Proof.Machine.execWmLow s
  | .wmHigh => Sys2Proof.Machine.execWmHigh s

end Sys2Proof.Machine
end

