-- ==== Sys2Proof/Machine/Step.lean ====
section
/-! DEFINITION. One step: the agent whose turn it is takes its step (00_scope.md R11, R12; 20_memory.md R85). -/

namespace Sys2Proof.Machine

/-- R84: the Command unit's turn: the next segment of a waiting command, or the first of the next command. -/
def commandTurn (s : State) : Host.Outcome State Fault Refusal :=
  match s.curCmd with
  | some c => .next (s.resumeCommand c)
  | none =>
    match fetchCommand s with
    | .run i t => exec i t
    | .answered t => .next t
    | .idle => .next s

/-- R220: the Exchange unit's turn: the received byte is run as the wire row it is. -/
def exchangeTurn (src : Source) (s : State) : Host.Outcome State Fault Refusal :=
  if s.exchangeDue src then
    match exec (decodeRx (s.beginTransaction src).2.esc (s.beginTransaction src).1) (s.beginTransaction src).2 with
    | .next t => .next t.endTransaction
    | .fault r => .fault r
    | .refused r => .refused r
  else .next s

/-- The step an agent takes in its turn. -/
def takeTurn (t : Turn) (s : State) : Host.Outcome State Fault Refusal :=
  match t with
  | .hostRead => .next s.hostReadEvent
  | .command => commandTurn s
  | .exchange src => exchangeTurn src s
  | .timer => .next s.timerEvent
  | .linkChange => .next s.linkChangeEvent
  | .linkReset => .next s
  | .pulse => .next s.pulseEvent

/-- One step of the model: the next turn is drawn and taken. -/
def step (s : State) : Host.Outcome State Fault Refusal := takeTurn s.drawTurn.1 s.drawTurn.2

/-- `s` with a word of the opcode table placed where `step` fetches its next instruction (log entry 10). -/
def State.withFetchWord (s : State) (nbits w : Nat) : State := s.placeWord nbits w

end Sys2Proof.Machine
end

