-- ==== Sys2Proof/Safety.lean ====
section
/-! DEFINITION. What the claims mean by a well-kept state, an enabled agent and a fair run: the invariants of
10_state.md R53 with the facts R37, R42, R44 and R49 add to them, and the weak fairness of 00_scope.md R12. -/

namespace Sys2Proof.Machine

/-- The local variables of a waiting command are those its rule can leave: WRITEB waits with bytes left, all of
them from one payload (R174); INIT waits in an attempt the budget admits (R240). -/
def CurCmd.Legal (p : Params) : CurCmd → Prop
  | .wait => True
  | .writeb rem total => rem ≠ [] ∧ rem.length + total ≤ 65535
  | .flush => True
  | .awaitp t => t ≤ 65535
  | .init a => 1 ≤ a ∧ a ≤ p.initRetries

/-- The invariant of the core: R53 items 1 to 5, the parameters' constraints (R8), RPL's size (R37), the link and
enable bits of an open core (R42, R44), and the Command unit's record (R49, R90). -/
structure State.Inv (s : State) : Prop where
  /-- R8 -/
  params : s.cfg.Valid
  /-- R53 item 1 -/
  inbound : s.inb.length ≤ s.cfg.inCap
  /-- R53 item 2 -/
  cursor : s.outCur ≤ s.out.length
  /-- R53 item 2 -/
  outbound : s.out.length ≤ s.cfg.outTotal
  /-- R53 item 3 -/
  sent : s.pSent ≤ s.pLen
  /-- R53 item 3 -/
  frame : s.pLen ≤ s.cfg.outTotal
  /-- R53 item 4 -/
  flight : s.pSent < s.pLen → s.outCur = s.pSent ∧ s.pLen ≤ s.out.length
  /-- R53 item 5 -/
  closed : s.timerId = none → s.linkEn = false ∧ s.clkArmed = false ∧ s.ieClk = false ∧ s.ieLnk = false ∧
    s.clkPend = false ∧ s.lnkPend = false
  /-- R42, R44 -/
  opened : s.timerId ≠ none → s.linkEn = true ∧ s.ieClk = true ∧ s.ieLnk = true
  /-- R37 -/
  reply : s.rpl.length = s.cfg.outTotal
  /-- R49, R90: a command waits only in an open core, and before its response -/
  waiting : s.curCmd ≠ none → s.timerId ≠ none ∧ s.env.response = []
  /-- R49 -/
  legal : ∀ c, s.curCmd = some c → c.Legal s.cfg

/-! ### The rules' values, written once as the claims use them -/

/-- R136: the bytes of OUT a source sequence occupies: its length plus the count of its bytes in {0x00, 0x5C}. -/
def expandedSize (src : List Byte) : Nat := src.length + src.countP (fun b => b == 0x00 || b == 0x5C)

/-- R130: what a stream of received bytes emits outside any frame from an escape state, and the escape state it
leaves. -/
def unescapeStream : Bool → List Byte → List Byte × Bool
  | esc, [] => ([], esc)
  | esc, b :: bs =>
    let r := unescape b esc
    let rest := unescapeStream r.2 bs
    (r.1.toList ++ rest.1, rest.2)

/-- R171: the state a write appends to: compacted unless a frame is in flight. -/
def State.compacted (s : State) : State :=
  { s with
    out := if s.pSent < s.pLen then s.out else s.out.drop s.outCur
    outCur := if s.pSent < s.pLen then s.outCur else 0 }

/-- R172, R176: `k` is the count of source bytes a write of `data` accepts: the longest prefix whose expansion
fits within OUT_CAP behind what OUT holds. -/
def State.LongestPrefix (s : State) (data : List Byte) (k : Nat) : Prop :=
  k ≤ data.length ∧
  (k = 0 ∨ s.compacted.out.length + expandedSize (data.take k) ≤ s.cfg.outCap) ∧
  ∀ j, k < j → j ≤ data.length → s.cfg.outCap < s.compacted.out.length + expandedSize (data.take j)

/-- R172: the state after the first `k` bytes of `data` are written. -/
def State.written (s : State) (data : List Byte) (k : Nat) : State :=
  { s.compacted with out := s.compacted.out ++ (data.take k).flatMap escape }

/-- R174: what one pass of WRITEB leaves: it ends with OK and the total, or waits with what is left. -/
def State.WritebPass (s : State) (rem : List Byte) (total : Nat) (t : State) : Prop :=
  ∃ k, s.LongestPrefix rem k ∧
    ((k = rem.length ∧ t = (s.written rem k).finish .ok (BitVec.ofNat 32 (total + k)) []) ∨
     (k < rem.length ∧
        t = { s.written rem k with tickSeen := false, curCmd := some (.writeb (rem.drop k) (total + k)) }))

/-- R190: the state after the insertion of a frame OUT_TOTAL admits: the frame, then the untransmitted bytes in
order, cut at OUT_TOTAL. -/
def State.framed (s : State) (frame : List Byte) (cap : Bool) (mask : Word32) : State :=
  { s with
    out := frame ++ (s.out.drop s.outCur).take (s.cfg.outTotal - frame.length)
    outCur := 0
    pLen := frame.length
    pSent := 0
    pCap := cap
    pMask := mask
    rpl := if cap = true then frame ++ s.rpl.drop frame.length else s.rpl }

/-- R145: the state after the check that follows a read. -/
def State.lowChecked (s : State) : State :=
  if s.cfg.loPct ≠ 0 ∧ s.inb.length ≤ s.cfg.inCap * s.cfg.loPct / 100 ∧ s.wmLatch = true then
    { s.framed [0x5C, 0x77, 0x00] false 0 with wmLatch := false }
  else s

/-- R142: the state after the check that follows an append. -/
def State.highChecked (s : State) : State :=
  if s.cfg.hiPct ≠ 0 ∧ s.cfg.inCap * s.cfg.hiPct / 100 ≤ s.inb.length ∧ s.wmLatch = false then
    { s.framed [0x5C, 0x77, 0x01] false 0 with wmLatch := true }
  else s

/-- R140: the state after one decoded byte is appended. -/
def State.appended (s : State) (d : Byte) : State :=
  State.highChecked
    { s with inb := (if s.cfg.inCap ≤ s.inb.length then s.inb.drop s.cfg.evictK else s.inb) ++ [d] }

/-- R240 InitFail, R242: the clock, both sources and the link are off and no timer is held. -/
def State.shut (s : State) : State :=
  { s with
    clkArmed := false, ieClk := false, ieLnk := false, clkPend := false, lnkPend := false, linkEn := false
    timerId := none }

/-- R201, R241: the state after a frame in flight timed out. -/
def State.demoted (s : State) : State :=
  { s with outCur := s.pSent, pLen := 0, pSent := 0, pCap := false, pMask := 0, clkArmed := true }

/-- R220: a source's pending bit is cleared. -/
def State.served (s : State) (src : Source) : State :=
  { s with
    clkPend := if src = .clk then false else s.clkPend
    lnkPend := if src = .lnk then false else s.lnkPend }

/-- R221: the byte at the cursor, or the filler. -/
def State.nextByte (s : State) : Byte := if s.outCur < s.out.length then s.out.getD s.outCur 0 else 0x00

/-- R223, R195: mask bit k names the byte k positions before the frame's last one. -/
def State.suspendsHere (s : State) : Prop :=
  s.pLen - 1 - s.pSent < 32 ∧ s.pMask.getLsbD (s.pLen - 1 - s.pSent) = true

/-! ### What the Command unit does with its turn -/

/-- R90, R84: the Command unit has the turn and, idle and with its last response read (log entry 7), takes `i` from
the port. -/
def State.Takes (s : State) (i : Instr) : Prop :=
  s.drawTurn.1 = .command ∧ s.curCmd = none ∧ s.env.response = [] ∧ ∃ rest, decode s.env.hostBytes = .instr i rest

/-- R19, R84: the Command unit has the turn, and the command that waits in it is `c`. -/
def State.Continues (s : State) (c : CurCmd) : Prop := s.drawTurn.1 = .command ∧ s.curCmd = some c

/-- R172 to R174: the segment is one of WRITE or WRITEB, which append behind what OUT holds. -/
def State.WriteSegment (s : State) : Prop :=
  (∃ d, s.Takes (.write d) ∨ s.Takes (.writeb d)) ∨ ∃ rem total, s.Continues (.writeb rem total)

/-- R240: the segment is one of INIT. -/
def State.InitSegment (s : State) : Prop := s.Takes .init ∨ ∃ a, s.Continues (.init a)

/-- R190: from `s` to `t` no frame was inserted: OUT is the same, and the frame record only counts on (R223) or is
cleared (R201, R241). -/
def State.NoFrameInserted (s t : State) : Prop :=
  t.out = s.out ∧ ((t.pLen = s.pLen ∧ s.pSent ≤ t.pSent) ∨ t.pLen = 0)

/-- R190: in `t` the frame is at the front of OUT and nothing of it has been sent. -/
def State.FrameInserted (t : State) (frame : List Byte) : Prop :=
  t.out.take frame.length = frame ∧ t.outCur = 0 ∧ t.pLen = frame.length ∧ t.pSent = 0

/-- R8: the same core built with another PORT_BINDING and TIME_UNIT. -/
def State.withPlatform (s : State) (ports : PortBinding) (unit : Nat) : State :=
  { s with cfg := { s.cfg with portBinding := ports, timeUnit := unit } }

/-! ### Runs -/

/-- A state some run from a power-on reset reaches. -/
inductive Reachable : State → Prop where
  /-- R52: reset, for any parameters R8 admits and any environment -/
  | reset (p : Params) (e : Env) (valid : p.Valid) : Reachable { State.resetWith p with env := e }
  /-- one step -/
  | step (s t : State) (reached : Reachable s) (next : step s = .next t) : Reachable t

/-- Whether a turn's agent has a step to take: the enabling conditions of R220, R276 and R84. An event of the Host,
the Peer or the Platform is always possible (R277, R281). -/
def State.enabled (s : State) : Turn → Bool
  | .hostRead => true
  | .command =>
    match s.curCmd with
    | some c => s.awaitHolds c
    | none =>
      match fetchCommand s with
      | .run _ _ => true
      | .answered _ => true
      | .idle => false
  | .exchange src => s.exchangeDue src
  | .timer => s.timerDue
  | .linkChange => true
  | .linkReset => true
  | .pulse => true

/-- An infinite run of the model. -/
def IsRun (σ : Nat → State) : Prop := ∀ n, step (σ n) = .next (σ (n + 1))

/-- R12: a turn that stays enabled is eventually taken. -/
def FairTo (t : Turn) (σ : Nat → State) : Prop :=
  ∀ n, (∀ m, n ≤ m → (σ m).enabled t = true) → ∃ m, n ≤ m ∧ (σ m).drawTurn.1 = t

/-- R12: the only liveness assumed: an armed timer eventually fires, a pending source is eventually served, and an
enabled command segment eventually runs. None is assumed of the Peer, the Host or the Platform. -/
def WeaklyFair (σ : Nat → State) : Prop :=
  IsRun σ ∧ FairTo .timer σ ∧ FairTo (.exchange .clk) σ ∧ FairTo (.exchange .lnk) σ ∧ FairTo .command σ

end Sys2Proof.Machine
end

