-- ==== Sys2Proof/Certificates/Slice0/Obligations.lean ====
section
/-! DEFINITION. The statements for the provers, from the numbered rules of spec/. A result is written as an
equation with the whole next state, so that it states the frame too: every element the record does not name is
unchanged, RPL, IN and OUT (the core's only storage, 20_memory.md R70) among them. -/

open Sys2Proof Sys2Proof.Machine

/-! ### Encodings -/

/-- R91 to R97: every well-formed command decodes from its own bytes, whatever follows them. -/
def Obligations.CommandDecodeEncode : Prop :=
  ∀ (i : Instr) (rest : List Byte), i.isCommand = true → i.WellFormed → decode (encode i ++ rest) = .instr i rest

/-- R95, R98: a byte stream decodes to a command only if it begins with that command's one encoding, reserved
fields 0. -/
def Obligations.DecodedBytesAreTheEncoding : Prop :=
  ∀ (bs rest : List Byte) (i : Instr), decode bs = .instr i rest →
    i.isCommand = true ∧ i.WellFormed ∧ bs = encode i ++ rest

/-- R103 to R105, R108, R130, R131: the wire rows and the control frames decode from and encode to the same
bytes, the received ones in the escape state their row names. -/
def Obligations.WireRowsDecodeEncode : Prop :=
  (∀ (esc : Bool) (b : Byte), (decodeRx esc b).WellFormed ∧ encode (decodeRx esc b) = [b]) ∧
  (∀ d : Byte, decodeRx true d = .rxLiteralAfterEscape d) ∧
  decodeRx false 0x5C = .rxEscape ∧ decodeRx false 0x00 = .rxNoise00 ∧ decodeRx false 0xFF = .rxNoiseFF ∧
  (∀ d : Byte, (Instr.rxLiteral d).WellFormed → decodeRx false d = .rxLiteral d) ∧
  (∀ rest : List Byte, decodeTx (encode .txEscape00 ++ rest) = some (.txEscape00, rest) ∧
    decodeTx (encode .txEscape5C ++ rest) = some (.txEscape5C, rest) ∧
    decodeTx (encode .txFiller ++ rest) = some (.txFiller, rest)) ∧
  (∀ (b : Byte) (rest : List Byte), (Instr.txLiteral b).WellFormed →
    decodeTx (encode (.txLiteral b) ++ rest) = some (.txLiteral b, rest)) ∧
  (∀ (bs rest : List Byte) (i : Instr), decodeTx bs = some (i, rest) → bs = encode i ++ rest) ∧
  (∀ r : Word32, decodeFrame (encode (.setrateFrame r)) = some (.setrateFrame r)) ∧
  decodeFrame (encode .versionQuery) = some .versionQuery ∧ decodeFrame (encode .wmLow) = some .wmLow ∧
  decodeFrame (encode .wmHigh) = some .wmHigh ∧
  (∀ (bs : List Byte) (i : Instr), decodeFrame bs = some i → bs = encode i)

/-- 95_test_vectors.md E9, E10 and programs P1 to P4, R109: written-out words of each family decode as the spec
says. -/
def Obligations.SpecWordsDecode : Prop :=
  decode [0x01, 0x00, 0x00, 0x00] = .instr .init [] ∧
  decode [0x03, 0x00, 0x00, 0x00, 0x00, 0x00, 0x03, 0xE8] = .instr (.setrate 1000) [] ∧
  decode [0x10, 0x00, 0x00, 0x03, 0x41, 0x00, 0x5C] = .instr (.write [0x41, 0x00, 0x5C]) [] ∧
  decode [0x20, 0x00, 0x00, 0x10] = .instr (.read 16) [] ∧
  decode [0x30, 0x01, 0x00, 0x03, 0x00, 0x00, 0x00, 0x02, 0x5C, 0x76, 0x00] =
    .instr (.enqp true 2 [0x5C, 0x76, 0x00]) [] ∧
  decodeRx false 0x5C = .rxEscape ∧ decodeTx [0x5C, 0x00] = some (.txEscape00, []) ∧
  decodeFrame [0x5C, 0x62, 0x00, 0x00, 0x03, 0xE8] = some (.setrateFrame 1000)

/-- R98, R99: in an idle Command unit whose last response was read, an undefined opcode consumes the four header
bytes and a nonzero reserved field the whole command; both answer BAD_COMMAND, open or closed, and change no
state. That the Command unit does not move before the response is read is log entry 7. -/
def Obligations.IllegalCommandsAreAnswered : Prop :=
  ∀ (s : State) (op aux n1 n0 : Byte) (body rest : List Byte), s.drawTurn.1 = .command → s.curCmd = none →
    s.env.response = [] → s.env.hostBytes = op :: aux :: n1 :: n0 :: (body ++ rest) →
    (Op.ofByte op = none → body = [] →
      step s = .next ((s.drawTurn.2.withHostBytes rest).finish .badCommand 0 [])) ∧
    (∀ o, Op.ofByte op = some o → body.length = o.format.bodyLength (n1 ++ n0) →
      o.format.reservedClear aux (n1 ++ n0) = false →
      step s = .next ((s.drawTurn.2.withHostBytes rest).finish .badCommand 0 []))

/-- R95, R96, R98: the defined opcodes, and which header fields each must have 0. -/
def Obligations.OpcodeMapAndReservedFields : Prop :=
  (∀ b : Byte, (Op.ofByte b).isSome = true ↔
    b ∈ ([0x01, 0x02, 0x03, 0x04, 0x05, 0x10, 0x11, 0x12, 0x20, 0x21, 0x22, 0x23, 0x30, 0x31, 0x32] : List Byte)) ∧
  (∀ (b : Byte) (o : Op), Op.ofByte b = some o ↔ b = o.byte) ∧
  (∀ (o : Op) (aux : Byte) (n : Word16), o.format.reservedClear aux n = true ↔
    ((o ∈ [.init, .shutdown, .setrate, .wait, .flush, .avail] → aux = 0 ∧ n = 0) ∧
     (o = .rdreg → n = 0) ∧
     (o ∈ [.write, .writeb, .read, .unread, .awaitp, .rdreply] → aux = 0) ∧
     (o = .enqp → aux = 0 ∨ aux = 1)))

/-! ### The step -/

/-- R84, R90, R99: a step of the idle Command unit is `exec` of the instruction the port's bytes decode to, with
the turn drawn (log entry 3) and the bytes consumed. -/
def Obligations.StepRunsTheDecodedCommand : Prop :=
  ∀ (s : State) (i : Instr) (rest : List Byte), s.drawTurn.1 = .command → s.curCmd = none →
    s.env.response = [] → decode s.env.hostBytes = .instr i rest →
    step s = exec i (s.drawTurn.2.withHostBytes rest)

/-- R220, R130: a step that serves a pending source of an open core runs, after the byte is exchanged, the wire
row the received byte is in its escape state (log entry 8), and then sets TICK_SEEN. -/
def Obligations.StepRunsTheReceivedRow : Prop :=
  ∀ (s : State) (src : Source), s.drawTurn.1 = .exchange src → s.exchangeDue src = true →
    ∃ t, exec (decodeRx (s.drawTurn.2.beginTransaction src).2.esc (s.drawTurn.2.beginTransaction src).1)
        (s.drawTurn.2.beginTransaction src).2 = .next t ∧
      step s = .next { t with tickSeen := true } ∧ step s = .next (s.drawTurn.2.transaction src)

/-- R19, R84: a command waits while its condition does not hold: only the turn is drawn, since a turn without an
enabled step passes (log entry 3). The conditions are those of R174, R175, R201, R241 and R245. -/
def Obligations.WaitingCommandHoldsStill : Prop :=
  ∀ (s : State) (c : CurCmd), s.drawTurn.1 = .command → s.curCmd = some c →
    (match c with
      | .wait => s.tickSeen = false
      | .writeb _ _ => s.tickSeen = false
      | .flush => s.outCur ≠ s.out.length
      | .awaitp t => s.pSent < s.pLen ∧ (t = 0 ∨ s.tuCount.toNat < t)
      | .init _ => s.pSent < s.pLen ∧ (s.cfg.initTimeout = 0 ∨ s.tuCount.toNat < s.cfg.initTimeout)) →
    step s = .next s.drawTurn.2

/-- R90, I19, R220, R276: an agent with nothing to do passes its turn: the Command unit while a response is unread
or no whole command was sent, the Exchange unit with its source not pending or the core closed, the Timer unarmed,
disabled or in a closed core, the Peer's signal while disabled, and a link reset (R302). That a turn without an
enabled step passes is the model's choice (log entries 3 and 7). -/
def Obligations.DisabledAgentsPassTheirTurn : Prop :=
  ∀ s : State,
    (s.drawTurn.1 = .command → s.curCmd = none →
      s.env.response ≠ [] ∨ decode s.env.hostBytes = .incomplete → step s = .next s.drawTurn.2) ∧
    (∀ src, s.drawTurn.1 = .exchange src → s.pending src = false ∨ s.timerId = none → step s = .next s.drawTurn.2) ∧
    (s.drawTurn.1 = .timer → s.timerId = none ∨ s.clkArmed = false ∨ s.ieClk = false → step s = .next s.drawTurn.2) ∧
    (s.drawTurn.1 = .linkChange → s.ieLnk = false → step s = .next s.drawTurn.2) ∧
    (s.drawTurn.1 = .linkReset → step s = .next s.drawTurn.2)

/-- R276, R277, R278, R90: the timer event of an open, armed and enabled clock; an enabled link-state-change event,
absorbed when its bit is already set; and the host's reading of the whole response, kept in `readByHost` (log
entry 2). -/
def Obligations.EventsTakeEffect : Prop :=
  ∀ s : State,
    (s.drawTurn.1 = .timer → s.timerId ≠ none → s.clkArmed = true → s.ieClk = true →
      step s = .next { s.drawTurn.2 with clkArmed := false, clkPend := true }) ∧
    (s.drawTurn.1 = .linkChange → s.ieLnk = true →
      step s = .next { s.drawTurn.2 with lnkPend := true } ∧ (s.lnkPend = true → step s = .next s.drawTurn.2)) ∧
    (s.drawTurn.1 = .hostRead →
      step s = .next { s.drawTurn.2 with env := { s.drawTurn.2.env with
        response := [], readByHost := s.env.readByHost ++ s.env.response } })

/-- R281: every time-unit pulse counts one, saturating at 65535. -/
def Obligations.PulseCountsSaturating : Prop :=
  ∀ s : State, s.drawTurn.1 = .pulse →
    ∃ c : Word16, step s = .next { s.drawTurn.2 with tuCount := c } ∧ c.toNat = min (s.tuCount.toNat + 1) 65535

/-- R271, R225: every step of every agent, and every instruction, answers a next state: nothing traps. -/
def Obligations.NothingTraps : Prop :=
  (∀ s : State, ∃ t, step s = .next t) ∧ ∀ (i : Instr) (s : State), ∃ t, exec i s = .next t

/-! ### Invariants and whole-machine rules -/

/-- R53, with R8, R37, R42, R44 and R49: the invariant of Safety.lean is kept by every step from every state that
has it. -/
def Obligations.InvariantKeptByStep : Prop :=
  ∀ s t : State, s.Inv → step s = .next t → t.Inv

/-- R52, R53: every core built with parameters R8 admits has the invariant at power-on reset, and so has
`State.reset`, whose parameters are the model's choice (log entry 1). -/
def Obligations.InvariantAtReset : Prop :=
  (∀ (p : Params) (e : Env), p.Valid → State.Inv { State.resetWith p with env := e }) ∧ State.reset.Inv

/-- R53: its five items, in every reachable state. -/
def Obligations.ReachableStatesAreWellKept : Prop :=
  ∀ s : State, Reachable s →
    s.inb.length ≤ s.cfg.inCap ∧
    (s.outCur ≤ s.out.length ∧ s.out.length ≤ s.cfg.outTotal) ∧
    (s.pSent ≤ s.pLen ∧ s.pLen ≤ s.cfg.outTotal) ∧
    (s.pSent < s.pLen → s.outCur = s.pSent ∧ s.pLen ≤ s.out.length) ∧
    (s.timerId = none → s.linkEn = false ∧ s.clkArmed = false ∧ s.ieClk = false ∧ s.ieLnk = false ∧
      s.clkPend = false ∧ s.lnkPend = false)

/-- R52: every element after power-on reset, for any parameters. -/
def Obligations.ResetValues : Prop :=
  ∀ p : Params, State.resetWith p =
    { cfg := p, inb := [], out := [], outCur := 0, pLen := 0, pSent := 0, pCap := false, pMask := 0x00000000
      rpl := List.replicate (p.outCap + p.outMargin) 0x00, wmLatch := false, esc := false, timerId := none
      linkEn := false, clkArmed := false, ieClk := false, ieLnk := false, clkPend := false, lnkPend := false
      rate := 0, divider := 0, version := 0x00, curCmd := none, tickSeen := false, tuCount := 0
      env := (State.resetWith p).env }

/-- R8: no step changes a parameter of the core. -/
def Obligations.ParametersAreFixed : Prop :=
  ∀ s t : State, step s = .next t → t.cfg = s.cfg

/-- R39, R132, R307: ESC changes only in an exchange transaction outside a frame, or is cleared in the segment in
which the Command unit takes INIT on a closed core. -/
def Obligations.EscapeStateOwnedByTheFilter : Prop :=
  ∀ s t : State, step s = .next t → t.esc ≠ s.esc →
    (∃ src, s.drawTurn.1 = .exchange src ∧ s.exchangeDue src = true ∧ ¬ s.pSent < s.pLen) ∨
    (s.Takes .init ∧ s.timerId = none ∧ t.esc = false)

/-- R142, R145, R146: a step that sets WM_LATCH puts the high-water notice at the front of OUT; a step that clears
it the low-water notice, unless it is INIT opening a closed core; and a step that leaves it as it was inserts no
notice: it inserts no frame at all, but for the frame an ENQP carries and the version query of an INIT. So the
notices of the two checks alternate. -/
def Obligations.NoticesAlternate : Prop :=
  ∀ s t : State, s.Inv → step s = .next t →
    (s.wmLatch = false → t.wmLatch = true → t.FrameInserted [0x5C, 0x77, 0x01]) ∧
    (s.wmLatch = true → t.wmLatch = false →
      t.FrameInserted [0x5C, 0x77, 0x00] ∨ (s.Takes .init ∧ s.timerId = none)) ∧
    (t.wmLatch = s.wmLatch →
      s.NoFrameInserted t ∨
      (s.WriteSegment ∧ t.pLen = s.pLen ∧ t.pSent = s.pSent ∧ ∃ e, t.out = s.compacted.out ++ e) ∨
      (∃ cap mask frame, s.Takes (.enqp cap mask frame) ∧ t.FrameInserted frame) ∨
      (s.InitSegment ∧ (t.FrameInserted [0x5C, 0x76, 0x00] ∨ (t.out = [] ∧ t.pLen = 0))))

/-- R40, R302: an open core closes only in a segment of SHUTDOWN, or in a segment of an INIT that fails. -/
def Obligations.OnlyShutdownOrFailedInitCloses : Prop :=
  ∀ s t : State, step s = .next t → s.timerId ≠ none → t.timerId = none →
    s.drawTurn.1 = .command ∧
    ((s.curCmd = none ∧ ∃ rest, decode s.env.hostBytes = .instr .shutdown rest) ∨
      ∃ a, s.curCmd = some (.init a) ∧ t.env.response = responseBytes .deviceNotResponding 0 [])

/-- R43, R228: an armed clock is disarmed only by the timer event, by a suspend-mask bit in a frame, or by the
core closing. -/
def Obligations.ClockStopsOnlyByTimerMaskOrClosing : Prop :=
  ∀ s t : State, step s = .next t → s.clkArmed = true → t.clkArmed = false →
    (s.drawTurn.1 = .timer ∧ t.clkPend = true) ∨
    ((∃ src, s.drawTurn.1 = .exchange src) ∧ s.pSent < s.pLen ∧ s.suspendsHere) ∨ t.timerId = none

/-- R100, R84: a step that takes a command from the port leaves exactly one of two states: the command waits and
no response stands, or it has finished and its one response stands on the port. -/
def Obligations.OneResponsePerCommand : Prop :=
  ∀ (s t : State) (i : Instr) (rest : List Byte), s.drawTurn.1 = .command → s.curCmd = none →
    s.env.response = [] → decode s.env.hostBytes = .instr i rest → step s = .next t →
    (t.curCmd ≠ none ∧ t.env.response = []) ∨
    (t.curCmd = none ∧ ∃ st v d, t.env.response = responseBytes st v d)

/-- R99 item 3: closed, every command other than INIT, SHUTDOWN and RDREG finishes CLOSED, and nothing else
changes. -/
def Obligations.ClosedCoreAnswersClosed : Prop :=
  ∀ (s : State) (i : Instr), s.timerId = none → i.isCommand = true → i ≠ .init → i ≠ .shutdown →
    (∀ r, i ≠ .rdreg r) →
    exec i s = .next { s with curCmd := none, env := { s.env with response := responseBytes .closed 0 [] } }

/-! ### Responses -/

/-- R18, R100, R270: what completion leaves, the bytes of a response, and the status codes, of which no other is
produced. -/
def Obligations.ResponseFormatAndStatusCodes : Prop :=
  (∀ (s : State) (st : Status) (v : Word32) (d : List Byte),
    s.finish st v d = { s with curCmd := none, env := { s.env with response := responseBytes st v d } } ∧
    responseBytes st v d = [st.code, 0x00, BitVec.ofNat 8 (d.length / 256), BitVec.ofNat 8 d.length,
      BitVec.ofNat 8 (v.toNat / 2 ^ 24), BitVec.ofNat 8 (v.toNat / 2 ^ 16), BitVec.ofNat 8 (v.toNat / 2 ^ 8),
      BitVec.ofNat 8 v.toNat] ++ d) ∧
  Status.code .ok = 0x00 ∧ Status.code .shortWrite = 0x01 ∧ Status.code .priorityRejected = 0x02 ∧
  Status.code .priorityTimeout = 0x03 ∧ Status.code .requeueRejected = 0x04 ∧ Status.code .notFound = 0x05 ∧
  Status.code .resourceUnavailable = 0x06 ∧ Status.code .deviceNotResponding = 0x07 ∧ Status.code .closed = 0x08 ∧
  Status.code .alreadyOpen = 0x09 ∧ Status.code .badCommand = 0x0A ∧ ∀ st : Status, st.code.toNat ≤ 0x0A

/-! ### Framing -/

/-- R134, and the same over whole streams: the expansion of source bytes decodes to those bytes, a 0xFF among them
lost, and ends outside the escape state. -/
def Obligations.ExpandedStreamDecodesBack : Prop :=
  (∀ src : List Byte, unescapeStream false (src.flatMap escape) = (src.filter (· != 0xFF), false)) ∧
  (∀ b : Byte, b ≠ 0xFF → unescapeStream false (escape b) = ([b], false)) ∧
  escape 0xFF = [0xFF] ∧ unescape 0xFF false = (none, false)

/-- R136: the bytes of OUT an expansion occupies. -/
def Obligations.ExpansionSize : Prop :=
  (∀ b : Byte, (escape b).length = if b = 0x00 ∨ b = 0x5C then 2 else 1) ∧
  ∀ src : List Byte, (src.flatMap escape).length = src.length + src.countP (fun b => b == 0x00 || b == 0x5C)

/-- R130, R224: the received rows outside a frame, each in the escape state its table row names. That a row's meaning
is its rule's operation is log entry 8. -/
def Obligations.ReceivedRowsFilter : Prop :=
  ∀ s : State, s.pLen ≤ s.pSent → 3 ≤ s.cfg.outTotal →
    (s.esc = false → exec .rxEscape s = .next { s with esc := true }) ∧
    (s.esc = false → exec .rxNoise00 s = .next s) ∧
    (s.esc = false → exec .rxNoiseFF s = .next s) ∧
    (∀ d, s.esc = false → (Instr.rxLiteral d).WellFormed → exec (.rxLiteral d) s = .next (s.appended d)) ∧
    (∀ d, s.esc = true → exec (.rxLiteralAfterEscape d) s = .next (State.appended { s with esc := false } d))

/-- R223, R194: while a frame is in flight every received row goes to the frame's channel and nowhere else: not to
IN, not to ESC (log entry 8). -/
def Obligations.ReceivedRowsInFrame : Prop :=
  ∀ (s : State) (i : Instr) (b : Byte), s.pSent < s.pLen →
    (i = .rxEscape ∧ b = 0x5C) ∨ (i = .rxNoise00 ∧ b = 0x00) ∨ (i = .rxNoiseFF ∧ b = 0xFF) ∨ i = .rxLiteral b ∨
      i = .rxLiteralAfterEscape b →
    ∃ armed : Bool, (armed = false ↔ s.clkArmed = false ∨ s.suspendsHere) ∧
      exec i s = .next { s with
        clkArmed := armed
        rpl := if 2 ≤ s.pSent ∧ s.pCap = true then s.rpl.set s.pSent b else s.rpl
        pSent := s.pSent + 1 }

/-- R131, R172: the expansion rows append their bytes whole when they fit within OUT_CAP, and nothing otherwise.
That these rows stand for the write path's append is log entry 8. -/
def Obligations.ExpansionRowsAppend : Prop :=
  ∀ s : State,
    (s.out.length + 2 ≤ s.cfg.outCap →
      exec .txEscape00 s = .next { s with out := s.out ++ [0x5C, 0x00] } ∧
      exec .txEscape5C s = .next { s with out := s.out ++ [0x5C, 0x5C] }) ∧
    (∀ b, s.out.length + 1 ≤ s.cfg.outCap → exec (.txLiteral b) s = .next { s with out := s.out ++ [b] }) ∧
    (s.cfg.outCap < s.out.length + 2 → exec .txEscape00 s = .next s ∧ exec .txEscape5C s = .next s) ∧
    (∀ b, s.cfg.outCap < s.out.length + 1 → exec (.txLiteral b) s = .next s)

/-- R221, R105: with no untransmitted byte queued the filler 0x00 goes to the link and the cursor stays; otherwise
the same step sends the byte at the cursor and advances it (log entry 8). -/
def Obligations.FillerRowTransmits : Prop :=
  ∀ s : State,
    (s.out.length ≤ s.outCur →
      exec .txFiller s = .next { s with env := { s.env with wire := s.env.wire ++ [0x00] } }) ∧
    (s.outCur < s.out.length →
      exec .txFiller s = .next { s with
        outCur := s.outCur + 1
        env := { s.env with wire := s.env.wire ++ [s.nextByte] } })

/-! ### The inbound buffer -/

/-- R140, R141, R142: appending a byte: eviction of the oldest block of a full IN, then the high-water check. -/
def Obligations.AppendEvictsAndChecks : Prop :=
  ∀ (s : State) (d : Byte), s.cfg.Valid →
    s.inAppend d = s.appended d ∧
    (s.inb.length = s.cfg.inCap →
      (s.inAppend d).inb = s.inb.drop s.cfg.evictK ++ [d] ∧
      (s.inAppend d).inb.length = s.cfg.inCap - s.cfg.evictK + 1) ∧
    (s.inb.length < s.cfg.inCap → (s.inAppend d).inb = s.inb ++ [d])

/-- R150, R145: READ returns and removes the first min(n, len(IN)) bytes, then runs the low-water check. -/
def Obligations.ReadResult : Prop :=
  ∀ (s : State) (n : Word16), s.isOpen = true → 3 ≤ s.cfg.outTotal →
    exec (.read n) s =
      .next ((State.lowChecked { s with inb := s.inb.drop n.toNat }).finish .ok 0 (s.inb.take n.toNat))

/-- R151: READLINE with a delimiter in the window returns and removes the bytes up to and including the first. -/
def Obligations.ReadlineFound : Prop :=
  ∀ (s : State) (delim : Byte) (n : Word16) (line rest : List Byte), s.isOpen = true → 3 ≤ s.cfg.outTotal →
    s.inb = line ++ delim :: rest → delim ∉ line → line.length < n.toNat →
    exec (.readline delim n) s =
      .next ((State.lowChecked { s with inb := rest }).finish .ok 0 (line ++ [delim]))

/-- R151: READLINE with no delimiter in the window consumes nothing and still runs the low-water check. -/
def Obligations.ReadlineNotFound : Prop :=
  ∀ (s : State) (delim : Byte) (n : Word16), s.isOpen = true → 3 ≤ s.cfg.outTotal →
    delim ∉ s.inb.take n.toNat →
    exec (.readline delim n) s = .next (s.lowChecked.finish .notFound 0 [])

/-- R152: AVAIL reports the occupancy of IN. -/
def Obligations.AvailResult : Prop :=
  ∀ s : State, s.isOpen = true → s.inb.length < 2 ^ 32 →
    ∃ v : Word32, v.toNat = s.inb.length ∧ exec .avail s = .next (s.finish .ok v [])

/-- R160: UNREAD prepends its bytes, or is refused with IN untouched; no watermark check runs. -/
def Obligations.UnreadResult : Prop :=
  ∀ (s : State) (data : List Byte), s.isOpen = true →
    (s.inb.length + data.length ≤ s.cfg.inCap →
      exec (.unread data) s = .next (State.finish { s with inb := data ++ s.inb } .ok 0 [])) ∧
    (s.cfg.inCap < s.inb.length + data.length →
      exec (.unread data) s = .next (s.finish .requeueRejected 0 []))

/-! ### The outbound buffer -/

/-- R172, R173, R176: WRITE accepts the longest prefix whose expansion fits and reports its length. -/
def Obligations.WriteAcceptsLongestPrefix : Prop :=
  ∀ (s : State) (data : List Byte), s.isOpen = true →
    ∃ k, s.LongestPrefix data k ∧
      exec (.write data) s =
        .next ((s.written data k).finish (if k < data.length then .shortWrite else .ok) (BitVec.ofNat 32 k) [])

/-- R174: WRITEB's first segment and every later one is one pass: all accepted and OK, or waiting for a
transaction with the bytes left over. -/
def Obligations.WritebPasses : Prop :=
  (∀ (s : State) (data : List Byte), s.isOpen = true →
    ∃ t, exec (.writeb data) s = .next t ∧ s.WritebPass data 0 t) ∧
  ∀ (s : State) (rem : List Byte) (total : Nat), s.drawTurn.1 = .command → s.curCmd = some (.writeb rem total) →
    s.tickSeen = true → ∃ t, step s = .next t ∧ s.drawTurn.2.WritebPass rem total t

/-- R175: FLUSH finishes at once when OUT is drained, waits otherwise, and finishes when it is drained. -/
def Obligations.FlushWaitsUntilDrained : Prop :=
  ∀ s : State,
    (s.isOpen = true → s.outCur = s.out.length → exec .flush s = .next (s.finish .ok 0 [])) ∧
    (s.isOpen = true → s.outCur ≠ s.out.length → exec .flush s = .next { s with curCmd := some .flush }) ∧
    (s.drawTurn.1 = .command → s.curCmd = some .flush → s.outCur = s.out.length →
      step s = .next (s.drawTurn.2.finish .ok 0 []))

/-! ### The priority channel -/

/-- R190, R191, R192, R200: ENQP of a frame OUT_TOTAL admits puts it at the front of OUT, cuts the tail beyond
OUT_TOTAL, replaces the record and, when capturing, preloads RPL; a longer frame is rejected and changes nothing.
Which bytes the cut keeps is R191's policy (I5, log entry 11). -/
def Obligations.EnqpInsertsOrRejects : Prop :=
  ∀ (s : State) (cap : Bool) (mask : Word32) (frame : List Byte), s.isOpen = true →
    (frame.length ≤ s.cfg.outTotal →
      exec (.enqp cap mask frame) s = .next ((s.framed frame cap mask).finish .ok 0 [])) ∧
    (s.cfg.outTotal < frame.length →
      exec (.enqp cap mask frame) s = .next (s.finish .priorityRejected 0 []))

/-- R108, R110 to R112 (log entry 9): the control-frame rows are the pseudo-instructions that send them. -/
def Obligations.ControlFrameRowsInsert : Prop :=
  ∀ s : State, s.isOpen = true →
    (3 ≤ s.cfg.outTotal →
      exec .versionQuery s = .next ((s.framed [0x5C, 0x76, 0x00] true 0).finish .ok 0 []) ∧
      exec .wmLow s = .next ((s.framed [0x5C, 0x77, 0x00] false 0).finish .ok 0 []) ∧
      exec .wmHigh s = .next ((s.framed [0x5C, 0x77, 0x01] false 0).finish .ok 0 [])) ∧
    (∀ r3 r2 r1 r0 : Byte, 6 ≤ s.cfg.outTotal →
      exec (.setrateFrame (r3 ++ r2 ++ r1 ++ r0)) s =
        .next ((s.framed [0x5C, 0x62, r3, r2, r1, r0] false 0).finish .ok 0 []))

/-- R201: AWAITP finishes OK with no frame in flight, else waits, its time-unit count cleared. -/
def Obligations.AwaitpFirstSegment : Prop :=
  ∀ (s : State) (t : Word16), s.isOpen = true →
    (s.pLen ≤ s.pSent → exec (.awaitp t) s = .next (State.finish { s with tuCount := 0 } .ok 0 [])) ∧
    (s.pSent < s.pLen →
      exec (.awaitp t) s = .next { s with tuCount := 0, curCmd := some (.awaitp t.toNat) })

/-- R201: a waiting AWAITP finishes OK once the frame is complete, tested first, and otherwise times out after `t`
time-units: the frame's remainder becomes ordinary data and the clock is armed. -/
def Obligations.AwaitpCompletesOrTimesOut : Prop :=
  ∀ (s : State) (t : Nat), s.drawTurn.1 = .command → s.curCmd = some (.awaitp t) →
    (s.pLen ≤ s.pSent → step s = .next (s.drawTurn.2.finish .ok 0 [])) ∧
    (s.pSent < s.pLen → t ≠ 0 → t ≤ s.tuCount.toNat →
      step s = .next (s.drawTurn.2.demoted.finish .priorityTimeout 0 []))

/-- R203: RDREPLY returns the first min(n, OUT_TOTAL) bytes of RPL and changes nothing. -/
def Obligations.RdreplyResult : Prop :=
  ∀ (s : State) (n : Word16), s.isOpen = true →
    exec (.rdreply n) s = .next (s.finish .ok 0 (s.rpl.take (min n.toNat s.cfg.outTotal)))

/-- R204, R229: after an accepted ENQP of a nonempty frame, the transactions that follow send the frame's bytes,
one each and in order, before anything queued earlier; nothing they receive reaches IN or ESC. -/
def Obligations.FrameIsNextOnTheWire : Prop :=
  ∀ (s t : State) (cap : Bool) (mask : Word32) (frame : List Byte) (srcs : List Source), s.isOpen = true →
    frame.length ≤ s.cfg.outTotal → srcs.length ≤ frame.length → exec (.enqp cap mask frame) s = .next t →
    (srcs.foldl State.transaction t).env.wire = s.env.wire ++ frame.take srcs.length ∧
    (srcs.foldl State.transaction t).pSent = srcs.length ∧
    (srcs.foldl State.transaction t).outCur = srcs.length ∧
    (srcs.foldl State.transaction t).out = t.out ∧
    (srcs.foldl State.transaction t).inb = s.inb ∧ (srcs.foldl State.transaction t).esc = s.esc

/-- R194, R205: after a capturing ENQP and the transactions that send the whole frame, RPL holds the frame's two
header bytes, the bytes received at the offsets from 2 on, and its old contents beyond the frame. -/
def Obligations.ReplyIsCapturedByPosition : Prop :=
  ∀ (s t : State) (mask : Word32) (frame replies later : List Byte) (srcs : List Source), s.isOpen = true →
    frame.length ≤ s.cfg.outTotal → replies.length = frame.length → srcs.length = frame.length →
    s.env.peerBytes = replies ++ later → exec (.enqp true mask frame) s = .next t →
    (srcs.foldl State.transaction t).rpl = frame.take 2 ++ replies.drop 2 ++ s.rpl.drop frame.length ∧
    (srcs.foldl State.transaction t).inb = s.inb

/-! ### The exchange transaction -/

/-- R221, R88: every transaction sends exactly one byte: the byte at the cursor, or the filler. -/
def Obligations.TransactionSendsOneByte : Prop :=
  ∀ (s : State) (src : Source),
    (s.transaction src).env.wire =
      s.env.wire ++ [if s.outCur < s.out.length then s.out.getD s.outCur 0 else 0x00]

/-- R220 to R223: the whole of a transaction in a frame with a queued byte at the cursor. -/
def Obligations.TransactionInFrame : Prop :=
  ∀ (s : State) (src : Source), s.pSent < s.pLen → s.outCur < s.out.length →
    ∃ armed : Bool, (armed = false ↔ s.suspendsHere) ∧
      s.transaction src = { s.served src with
        outCur := s.outCur + 1
        clkArmed := armed
        rpl := if 2 ≤ s.pSent ∧ s.pCap = true then s.rpl.set s.pSent s.drawPeerByte.1 else s.rpl
        pSent := s.pSent + 1
        tickSeen := true
        env := { s.drawPeerByte.2.env with wire := s.env.wire ++ [s.nextByte] } }

/-- R220 to R224: the whole of a transaction outside a frame: one byte sent, the clock armed, the received byte
through the filter and, if it emits one, an append. -/
def Obligations.TransactionOutsideFrame : Prop :=
  ∀ (s : State) (src : Source), s.pLen ≤ s.pSent → 3 ≤ s.cfg.outTotal →
    s.transaction src =
      (match unescape s.drawPeerByte.1 s.esc with
        | (none, esc) => State.endTransaction { s.served src with
            outCur := if s.outCur < s.out.length then s.outCur + 1 else s.outCur
            clkArmed := true
            esc := esc
            env := { s.drawPeerByte.2.env with wire := s.env.wire ++ [s.nextByte] } }
        | (some d, esc) => State.endTransaction (State.appended { s.served src with
            outCur := if s.outCur < s.out.length then s.outCur + 1 else s.outCur
            clkArmed := true
            esc := esc
            env := { s.drawPeerByte.2.env with wire := s.env.wire ++ [s.nextByte] } } d))

/-- R228, bounded: from an open core with an armed clock, once the timer and then the CLK source have had their
turn, no command segment coming between, some transaction has run. -/
def Obligations.ArmedClockLeadsToTransaction : Prop :=
  ∀ (s : State) (before between after : List Turn), s.Inv → s.timerId ≠ none → s.clkArmed = true →
    .command ∉ before → .command ∉ between →
    s.env.turns = before ++ .timer :: between ++ .exchange .clk :: after →
    ∃ t : State, Host.Core.run Sys2Proof.core (before.length + between.length + 2) s = .next t ∧
      s.env.wire.length < t.env.wire.length

/-! ### Control -/

/-- R240, R301: INIT of a closed core whose probe finds a timer opens it, clears the buffers, brings up link,
enables and clock in one segment, and waits in the first version round trip. -/
def Obligations.InitOpensTheCore : Prop :=
  ∀ (s : State) (id : TimerId), s.timerId = none → s.drawProbe.1 = some id → s.cfg.initRetries ≠ 0 →
    3 ≤ s.cfg.outTotal →
    exec .init s = .next
      { cfg := s.cfg, inb := [], out := [0x5C, 0x76, 0x00], outCur := 0, pLen := 3, pSent := 0, pCap := true
        pMask := s.cfg.verMask, rpl := [0x5C, 0x76, 0x00] ++ List.replicate (s.cfg.outTotal - 3) 0x00
        wmLatch := false, esc := false, timerId := some id, linkEn := true, clkArmed := true, ieClk := true
        ieLnk := true, clkPend := false, lnkPend := false, rate := (rateFn s.cfg s.cfg.defaultRate).2
        divider := (rateFn s.cfg s.cfg.defaultRate).1, version := 0x00, curCmd := some (.init 1)
        tickSeen := s.tickSeen, tuCount := 0, env := s.drawProbe.2.env }

/-- R240: INIT while open, INIT that finds no timer, and INIT with no round trip in its budget. -/
def Obligations.InitTurnedAway : Prop :=
  ∀ s : State,
    (s.timerId ≠ none → exec .init s = .next (s.finish .alreadyOpen 0 [])) ∧
    (s.timerId = none → s.drawProbe.1 = none →
      exec .init s = .next (s.drawProbe.2.finish .resourceUnavailable 0 [])) ∧
    (s.timerId = none → s.drawProbe.1 ≠ none → s.cfg.initRetries = 0 →
      exec .init s = .next
        { cfg := s.cfg, inb := [], out := [], outCur := 0, pLen := 0, pSent := 0, pCap := false, pMask := 0
          rpl := List.replicate s.cfg.outTotal 0x00, wmLatch := false, esc := false, timerId := none
          linkEn := false, clkArmed := false, ieClk := false, ieLnk := false, clkPend := false, lnkPend := false
          rate := (rateFn s.cfg s.cfg.defaultRate).2, divider := (rateFn s.cfg s.cfg.defaultRate).1
          version := 0x00, curCmd := none, tickSeen := s.tickSeen, tuCount := s.tuCount
          env := { s.drawProbe.2.env with response := responseBytes .deviceNotResponding 0 [] } })

/-- R240, R241, R246: when a version round trip of attempt `a` ends, completed or timed out (then demoted), the
byte RPL[2] decides: 0x00 or an exhausted budget fails and closes, 0xFF with budget left starts another round
trip, any other byte is the version. -/
def Obligations.InitRoundTripOutcome : Prop :=
  ∀ (s e : State) (a : Nat) (v : Byte), s.drawTurn.1 = .command → s.curCmd = some (.init a) →
    (s.pLen ≤ s.pSent ∧ e = s.drawTurn.2) ∨
      (s.pSent < s.pLen ∧ s.cfg.initTimeout ≠ 0 ∧ s.cfg.initTimeout ≤ s.tuCount.toNat ∧ e = s.drawTurn.2.demoted) →
    s.rpl[2]? = some v → 3 ≤ s.cfg.outTotal →
    (v = 0x00 ∨ (v = 0xFF ∧ a = s.cfg.initRetries) → step s = .next (e.shut.finish .deviceNotResponding 0 [])) ∧
    (v = 0xFF → a ≠ s.cfg.initRetries →
      step s = .next { e.framed [0x5C, 0x76, 0x00] true s.cfg.verMask with
        tuCount := 0, curCmd := some (.init (a + 1)) }) ∧
    (v ≠ 0x00 → v ≠ 0xFF →
      step s = .next (State.finish { e with version := v } .ok (v.setWidth 32) []))

/-- R242: SHUTDOWN of an open core; of a closed one it has no effect. -/
def Obligations.ShutdownResult : Prop :=
  ∀ s : State,
    (s.timerId ≠ none → exec .shutdown s = .next (s.shut.finish .ok 0 [])) ∧
    (s.timerId = none → exec .shutdown s = .next (s.finish .ok 0 []))

/-- R243: SETRATE stores what RATE_FN answers; rate 0 is refused. The function is the parameter: a listed point
wins over the free value (log entry 6). -/
def Obligations.SetrateResult : Prop :=
  ∀ (s : State) (r : Word32), s.isOpen = true →
    (r ≠ 0 → exec (.setrate r) s = .next
      (State.finish { s with divider := (rateFn s.cfg r).1, rate := (rateFn s.cfg r).2 } .ok (rateFn s.cfg r).2 [])) ∧
    (r = 0 → exec (.setrate r) s = .next (s.finish .badCommand 0 [])) ∧
    (∀ (e : RateEntry) (more : List RateEntry), s.cfg.rateTable = e :: more → e.rate = r →
      rateFn s.cfg r = (e.divider, e.achieved))

/-- R51, R244: RDREG, open or closed, returns the register's value whole under the invariant and changes nothing;
a reserved number is refused. TIMER reads TIMER_CODE of the identity (log entry 5). -/
def Obligations.RdregReadsTheView : Prop :=
  ∀ s : State, s.Inv →
    (∀ r : Byte, 0x12 ≤ r.toNat → exec (.rdreg r) s = .next (s.finish .badCommand 0 [])) ∧
    exec (.rdreg 0x00) s = .next (s.finish .ok s.statusWord []) ∧
    exec (.rdreg 0x01) s = .next (s.finish .ok (BitVec.ofNat 32 s.inb.length) []) ∧
    exec (.rdreg 0x02) s = .next (s.finish .ok (BitVec.ofNat 32 s.out.length) []) ∧
    exec (.rdreg 0x03) s = .next (s.finish .ok (BitVec.ofNat 32 s.outCur) []) ∧
    exec (.rdreg 0x04) s = .next (s.finish .ok (BitVec.ofNat 32 s.pLen) []) ∧
    exec (.rdreg 0x05) s = .next (s.finish .ok (BitVec.ofNat 32 s.pSent) []) ∧
    exec (.rdreg 0x06) s = .next (s.finish .ok s.pMask []) ∧
    exec (.rdreg 0x07) s = .next (s.finish .ok (BitVec.ofNat 32 (s.cfg.inCap * s.cfg.hiPct / 100)) []) ∧
    exec (.rdreg 0x08) s = .next (s.finish .ok (BitVec.ofNat 32 (s.cfg.inCap * s.cfg.loPct / 100)) []) ∧
    exec (.rdreg 0x09) s = .next (s.finish .ok s.rate []) ∧
    exec (.rdreg 0x0A) s = .next (s.finish .ok s.divider []) ∧
    exec (.rdreg 0x0B) s = .next (s.finish .ok (BitVec.ofNat 32 s.version.toNat) []) ∧
    exec (.rdreg 0x0C) s = .next (s.finish .ok (BitVec.ofNat 32 s.cfg.inCap) []) ∧
    exec (.rdreg 0x0D) s = .next (s.finish .ok (BitVec.ofNat 32 s.cfg.outCap) []) ∧
    exec (.rdreg 0x0E) s = .next (s.finish .ok (BitVec.ofNat 32 (s.cfg.outCap + s.cfg.outMargin)) []) ∧
    exec (.rdreg 0x0F) s = .next (s.finish .ok (BitVec.ofNat 32 s.cfg.evictK) []) ∧
    (s.timerId = none → exec (.rdreg 0x10) s = .next (s.finish .ok 0 [])) ∧
    (∀ id, s.timerId = some id → id.code ≠ 0 ∧ exec (.rdreg 0x10) s = .next (s.finish .ok id.code [])) ∧
    exec (.rdreg 0x11) s = .next (s.finish .ok (BitVec.ofNat 32 s.tuCount.toNat) [])

/-- R51: the bits of register STATUS. -/
def Obligations.StatusRegisterBits : Prop :=
  ∀ s : State,
    s.statusWord.getLsbD 0 = s.timerId.isSome ∧ s.statusWord.getLsbD 1 = s.linkEn ∧
    s.statusWord.getLsbD 2 = s.clkArmed ∧ s.statusWord.getLsbD 3 = s.ieClk ∧ s.statusWord.getLsbD 4 = s.ieLnk ∧
    s.statusWord.getLsbD 5 = s.clkPend ∧ s.statusWord.getLsbD 6 = s.lnkPend ∧ s.statusWord.getLsbD 7 = s.esc ∧
    s.statusWord.getLsbD 8 = s.wmLatch ∧ s.statusWord.getLsbD 9 = decide (s.pSent < s.pLen) ∧
    s.statusWord.getLsbD 10 = s.pCap ∧ s.statusWord.getLsbD 11 = s.tickSeen ∧
    ∀ i, 12 ≤ i → s.statusWord.getLsbD i = false

/-- R245: WAIT clears TICK_SEEN and waits; it finishes once a transaction has set it. -/
def Obligations.WaitForATransaction : Prop :=
  (∀ s : State, s.isOpen = true → exec .wait s = .next { s with tickSeen := false, curCmd := some .wait }) ∧
  ∀ s : State, s.drawTurn.1 = .command → s.curCmd = some .wait → s.tickSeen = true →
    step s = .next (s.drawTurn.2.finish .ok 0 [])

/-! ### The parameters no rule reads -/

/-- R8, R72, R281: no rule reads PORT_BINDING or TIME_UNIT. A step of a core built with others goes as the same
step of this one, and leaves the same state but for those two parameters. -/
def Obligations.NoStepReadsPortBindingOrTimeUnit : Prop :=
  ∀ (s t : State) (ports : PortBinding) (unit : Nat), step s = .next t →
    step (s.withPlatform ports unit) = .next (t.withPlatform ports unit)
end

