-- ==== Sys2Proof/Laws/Decode.lean ====
section
/-! SUPPORT. Byte order, the opcode map and the command-port decoder: the lemmas later proofs cite instead of
unfolding `decode`. -/

namespace Sys2Proof

/-! ### Byte order (R76) -/

theorem be16_bytes16 (v : Word16) : be16 (v.extractLsb' 8 8) (v.extractLsb' 0 8) = v := by
  apply BitVec.eq_of_getLsbD_eq
  intro i hi
  unfold be16
  rw [BitVec.getLsbD_append]
  rcases Nat.lt_or_ge i 8 with h | h
  · simp [h]
  · simp [Nat.not_lt.2 h, show i - 8 < 8 by omega, show 8 + (i - 8) = i by omega]

theorem be32_bytes32 (v : Word32) :
    be32 (v.extractLsb' 24 8) (v.extractLsb' 16 8) (v.extractLsb' 8 8) (v.extractLsb' 0 8) = v := by
  apply BitVec.eq_of_getLsbD_eq
  intro i hi
  unfold be32
  rw [BitVec.getLsbD_append, BitVec.getLsbD_append, BitVec.getLsbD_append]
  rcases Nat.lt_or_ge i 8 with h | h
  · simp [h]
  rcases Nat.lt_or_ge i 16 with h2 | h2
  · simp [Nat.not_lt.2 h, show i - 8 < 8 by omega, show 8 + (i - 8) = i by omega]
  rcases Nat.lt_or_ge i 24 with h3 | h3
  · simp [Nat.not_lt.2 h, show ¬ (i - 8 < 8) by omega, show i - 8 - 8 < 8 by omega,
      show 16 + (i - 8 - 8) = i by omega]
  · simp [Nat.not_lt.2 h, show ¬ (i - 8 < 8) by omega, show ¬ (i - 8 - 8 < 8) by omega,
      show 24 + (i - 8 - 8 - 8) = i by omega, show i - 8 - 8 - 8 < 8 by omega]

theorem bytes16_be16 (hi lo : Byte) : bytes16 (be16 hi lo) = [hi, lo] := by
  unfold bytes16 be16
  congr 1
  · apply BitVec.eq_of_getLsbD_eq
    intro i h
    rw [BitVec.getLsbD_extractLsb', BitVec.getLsbD_append]
    simp [h]
  congr 1
  apply BitVec.eq_of_getLsbD_eq
  intro i h
  rw [BitVec.getLsbD_extractLsb', BitVec.getLsbD_append]
  simp [h]

theorem bytes32_be32 (b3 b2 b1 b0 : Byte) : bytes32 (be32 b3 b2 b1 b0) = [b3, b2, b1, b0] := by
  unfold bytes32 be32
  congr 1
  · apply BitVec.eq_of_getLsbD_eq
    intro i h
    rw [BitVec.getLsbD_extractLsb', BitVec.getLsbD_append, BitVec.getLsbD_append, BitVec.getLsbD_append]
    simp [h, show ¬ 24 + i < 8 by omega, show ¬ (24 + i - 8 < 8) by omega, show ¬ (24 + i - 8 - 8 < 8) by omega,
      show 24 + i - 8 - 8 - 8 = i by omega]
  congr 1
  · apply BitVec.eq_of_getLsbD_eq
    intro i h
    rw [BitVec.getLsbD_extractLsb', BitVec.getLsbD_append, BitVec.getLsbD_append, BitVec.getLsbD_append]
    simp [h, show ¬ 16 + i < 8 by omega, show ¬ (16 + i - 8 < 8) by omega, show 16 + i - 8 - 8 = i by omega]
  congr 1
  · apply BitVec.eq_of_getLsbD_eq
    intro i h
    rw [BitVec.getLsbD_extractLsb', BitVec.getLsbD_append, BitVec.getLsbD_append, BitVec.getLsbD_append]
    simp [h]
  congr 1
  apply BitVec.eq_of_getLsbD_eq
  intro i h
  rw [BitVec.getLsbD_extractLsb', BitVec.getLsbD_append, BitVec.getLsbD_append, BitVec.getLsbD_append]
  simp [h]

/-- R97: a payload that fits the field N has its length there. -/
theorem payloadLength_toNat {d : List Byte} (h : payloadFits d = true) : (payloadLength d).toNat = d.length := by
  simp only [payloadFits, decide_eq_true_eq] at h
  simp only [payloadLength, BitVec.toNat_ofNat]
  omega

/-! ### The opcode map (R96) -/

@[simp] theorem ofByte_byte (o : Op) : Op.ofByte o.byte = some o := by cases o <;> rfl

theorem ofByte_some : ∀ (b : Byte) (o : Op), Op.ofByte b = some o → b = o.byte := by decide +revert

/-! ### The decoder -/

/-- R94, R97, R98: a header of a defined opcode with its reserved fields 0, followed by a whole body, decodes. -/
theorem decode_of_body (op : Op) (aux : Byte) (n : Word16) (body rest : List Byte)
    (hl : body.length = op.format.bodyLength n) (hr : op.format.reservedClear aux n = true) :
    decode (op.byte :: aux :: (bytes16 n ++ (body ++ rest))) = .instr (op.instr aux n body) rest := by
  simp only [bytes16, List.cons_append, List.nil_append, decode, ofByte_byte, be16_bytes16, hr, if_true]
  rw [if_neg (by simp; omega), ← hl]
  simp

/-- Everything the command-port decoder can answer on four or more bytes. -/
theorem decode_spec (opByte aux n1 n0 : Byte) (tail : List Byte) :
    (Op.ofByte opByte = none ∧ decode (opByte :: aux :: n1 :: n0 :: tail) = .bad (.undefinedOpcode opByte) tail) ∨
    ∃ op, opByte = op.byte ∧
      ((tail.length < op.format.bodyLength (be16 n1 n0) ∧
          decode (opByte :: aux :: n1 :: n0 :: tail) = .incomplete) ∨
       ∃ body rest, tail = body ++ rest ∧ body.length = op.format.bodyLength (be16 n1 n0) ∧
        ((op.format.reservedClear aux (be16 n1 n0) = true ∧
            decode (opByte :: aux :: n1 :: n0 :: tail) = .instr (op.instr aux (be16 n1 n0) body) rest) ∨
         (op.format.reservedClear aux (be16 n1 n0) = false ∧
            decode (opByte :: aux :: n1 :: n0 :: tail) = .bad (.reservedField op) rest))) := by
  cases ho : Op.ofByte opByte with
  | none => exact .inl ⟨rfl, by simp [decode, ho]⟩
  | some op =>
    refine .inr ⟨op, ofByte_some _ _ ho, ?_⟩
    by_cases hl : tail.length < op.format.bodyLength (be16 n1 n0)
    · exact .inl ⟨hl, by simp [decode, ho, hl]⟩
    · refine .inr ⟨tail.take (op.format.bodyLength (be16 n1 n0)), tail.drop (op.format.bodyLength (be16 n1 n0)),
        (List.take_append_drop _ _).symm, by simp; omega, ?_⟩
      cases hr : op.format.reservedClear aux (be16 n1 n0) with
      | true => exact .inl ⟨rfl, by simp [decode, ho, hl, hr]⟩
      | false => exact .inr ⟨rfl, by simp [decode, ho, hl, hr]⟩

/-- Fewer than four bytes are no whole command. -/
theorem decode_short {bs : List Byte} (h : bs.length < 4) : decode bs = .incomplete := by
  match bs, h with
  | [], _ => rfl
  | [_], _ => rfl
  | [_, _], _ => rfl
  | [_, _, _], _ => rfl

end Sys2Proof
end

