-- ==== Sys2Proof/Laws/State.lean ====
section
/-! SUPPORT. One lemma per field per update of State, each true by `rfl`, so that no later proof unfolds a record
update. The updates are those of Machine/Ops.lean, Exchange.lean, Control.lean and Agents.lean. -/

namespace Sys2Proof.Machine

variable (s : State)

/-! ### `finish` (R18) -/

@[simp] theorem finish_cfg (st : Status) (v : Word32) (d : List Byte) : (s.finish st v d).cfg = s.cfg := rfl
@[simp] theorem finish_inb (st : Status) (v : Word32) (d : List Byte) : (s.finish st v d).inb = s.inb := rfl
@[simp] theorem finish_out (st : Status) (v : Word32) (d : List Byte) : (s.finish st v d).out = s.out := rfl
@[simp] theorem finish_outCur (st : Status) (v : Word32) (d : List Byte) : (s.finish st v d).outCur = s.outCur := rfl
@[simp] theorem finish_pLen (st : Status) (v : Word32) (d : List Byte) : (s.finish st v d).pLen = s.pLen := rfl
@[simp] theorem finish_pSent (st : Status) (v : Word32) (d : List Byte) : (s.finish st v d).pSent = s.pSent := rfl
@[simp] theorem finish_pCap (st : Status) (v : Word32) (d : List Byte) : (s.finish st v d).pCap = s.pCap := rfl
@[simp] theorem finish_pMask (st : Status) (v : Word32) (d : List Byte) : (s.finish st v d).pMask = s.pMask := rfl
@[simp] theorem finish_rpl (st : Status) (v : Word32) (d : List Byte) : (s.finish st v d).rpl = s.rpl := rfl
@[simp] theorem finish_wmLatch (st : Status) (v : Word32) (d : List Byte) : (s.finish st v d).wmLatch = s.wmLatch := rfl
@[simp] theorem finish_esc (st : Status) (v : Word32) (d : List Byte) : (s.finish st v d).esc = s.esc := rfl
@[simp] theorem finish_timerId (st : Status) (v : Word32) (d : List Byte) : (s.finish st v d).timerId = s.timerId := rfl
@[simp] theorem finish_linkEn (st : Status) (v : Word32) (d : List Byte) : (s.finish st v d).linkEn = s.linkEn := rfl
@[simp] theorem finish_clkArmed (st : Status) (v : Word32) (d : List Byte) : (s.finish st v d).clkArmed = s.clkArmed := rfl
@[simp] theorem finish_ieClk (st : Status) (v : Word32) (d : List Byte) : (s.finish st v d).ieClk = s.ieClk := rfl
@[simp] theorem finish_ieLnk (st : Status) (v : Word32) (d : List Byte) : (s.finish st v d).ieLnk = s.ieLnk := rfl
@[simp] theorem finish_clkPend (st : Status) (v : Word32) (d : List Byte) : (s.finish st v d).clkPend = s.clkPend := rfl
@[simp] theorem finish_lnkPend (st : Status) (v : Word32) (d : List Byte) : (s.finish st v d).lnkPend = s.lnkPend := rfl
@[simp] theorem finish_rate (st : Status) (v : Word32) (d : List Byte) : (s.finish st v d).rate = s.rate := rfl
@[simp] theorem finish_divider (st : Status) (v : Word32) (d : List Byte) : (s.finish st v d).divider = s.divider := rfl
@[simp] theorem finish_version (st : Status) (v : Word32) (d : List Byte) : (s.finish st v d).version = s.version := rfl
@[simp] theorem finish_curCmd (st : Status) (v : Word32) (d : List Byte) : (s.finish st v d).curCmd = none := rfl
@[simp] theorem finish_tickSeen (st : Status) (v : Word32) (d : List Byte) : (s.finish st v d).tickSeen = s.tickSeen := rfl
@[simp] theorem finish_tuCount (st : Status) (v : Word32) (d : List Byte) : (s.finish st v d).tuCount = s.tuCount := rfl
@[simp] theorem finish_env (st : Status) (v : Word32) (d : List Byte) : (s.finish st v d).env = { s.env with response := responseBytes st v d } := rfl

/-! ### `await` (R19) -/

@[simp] theorem await_cfg (c : CurCmd) : (s.await c).cfg = s.cfg := rfl
@[simp] theorem await_inb (c : CurCmd) : (s.await c).inb = s.inb := rfl
@[simp] theorem await_out (c : CurCmd) : (s.await c).out = s.out := rfl
@[simp] theorem await_outCur (c : CurCmd) : (s.await c).outCur = s.outCur := rfl
@[simp] theorem await_pLen (c : CurCmd) : (s.await c).pLen = s.pLen := rfl
@[simp] theorem await_pSent (c : CurCmd) : (s.await c).pSent = s.pSent := rfl
@[simp] theorem await_pCap (c : CurCmd) : (s.await c).pCap = s.pCap := rfl
@[simp] theorem await_pMask (c : CurCmd) : (s.await c).pMask = s.pMask := rfl
@[simp] theorem await_rpl (c : CurCmd) : (s.await c).rpl = s.rpl := rfl
@[simp] theorem await_wmLatch (c : CurCmd) : (s.await c).wmLatch = s.wmLatch := rfl
@[simp] theorem await_esc (c : CurCmd) : (s.await c).esc = s.esc := rfl
@[simp] theorem await_timerId (c : CurCmd) : (s.await c).timerId = s.timerId := rfl
@[simp] theorem await_linkEn (c : CurCmd) : (s.await c).linkEn = s.linkEn := rfl
@[simp] theorem await_clkArmed (c : CurCmd) : (s.await c).clkArmed = s.clkArmed := rfl
@[simp] theorem await_ieClk (c : CurCmd) : (s.await c).ieClk = s.ieClk := rfl
@[simp] theorem await_ieLnk (c : CurCmd) : (s.await c).ieLnk = s.ieLnk := rfl
@[simp] theorem await_clkPend (c : CurCmd) : (s.await c).clkPend = s.clkPend := rfl
@[simp] theorem await_lnkPend (c : CurCmd) : (s.await c).lnkPend = s.lnkPend := rfl
@[simp] theorem await_rate (c : CurCmd) : (s.await c).rate = s.rate := rfl
@[simp] theorem await_divider (c : CurCmd) : (s.await c).divider = s.divider := rfl
@[simp] theorem await_version (c : CurCmd) : (s.await c).version = s.version := rfl
@[simp] theorem await_curCmd (c : CurCmd) : (s.await c).curCmd = some c := rfl
@[simp] theorem await_tickSeen (c : CurCmd) : (s.await c).tickSeen = s.tickSeen := rfl
@[simp] theorem await_tuCount (c : CurCmd) : (s.await c).tuCount = s.tuCount := rfl
@[simp] theorem await_env (c : CurCmd) : (s.await c).env = s.env := rfl

/-! ### `compact` (R170) -/

@[simp] theorem compact_cfg : s.compact.cfg = s.cfg := rfl
@[simp] theorem compact_inb : s.compact.inb = s.inb := rfl
@[simp] theorem compact_out : s.compact.out = s.out.drop s.outCur := rfl
@[simp] theorem compact_outCur : s.compact.outCur = 0 := rfl
@[simp] theorem compact_pLen : s.compact.pLen = s.pLen := rfl
@[simp] theorem compact_pSent : s.compact.pSent = s.pSent := rfl
@[simp] theorem compact_pCap : s.compact.pCap = s.pCap := rfl
@[simp] theorem compact_pMask : s.compact.pMask = s.pMask := rfl
@[simp] theorem compact_rpl : s.compact.rpl = s.rpl := rfl
@[simp] theorem compact_wmLatch : s.compact.wmLatch = s.wmLatch := rfl
@[simp] theorem compact_esc : s.compact.esc = s.esc := rfl
@[simp] theorem compact_timerId : s.compact.timerId = s.timerId := rfl
@[simp] theorem compact_linkEn : s.compact.linkEn = s.linkEn := rfl
@[simp] theorem compact_clkArmed : s.compact.clkArmed = s.clkArmed := rfl
@[simp] theorem compact_ieClk : s.compact.ieClk = s.ieClk := rfl
@[simp] theorem compact_ieLnk : s.compact.ieLnk = s.ieLnk := rfl
@[simp] theorem compact_clkPend : s.compact.clkPend = s.clkPend := rfl
@[simp] theorem compact_lnkPend : s.compact.lnkPend = s.lnkPend := rfl
@[simp] theorem compact_rate : s.compact.rate = s.rate := rfl
@[simp] theorem compact_divider : s.compact.divider = s.divider := rfl
@[simp] theorem compact_version : s.compact.version = s.version := rfl
@[simp] theorem compact_curCmd : s.compact.curCmd = s.curCmd := rfl
@[simp] theorem compact_tickSeen : s.compact.tickSeen = s.tickSeen := rfl
@[simp] theorem compact_tuCount : s.compact.tuCount = s.tuCount := rfl
@[simp] theorem compact_env : s.compact.env = s.env := rfl

/-! ### `push` (R172) -/

@[simp] theorem push_cfg (e : List Byte) : (s.push e).cfg = s.cfg := rfl
@[simp] theorem push_inb (e : List Byte) : (s.push e).inb = s.inb := rfl
@[simp] theorem push_out (e : List Byte) : (s.push e).out = s.out ++ e := rfl
@[simp] theorem push_outCur (e : List Byte) : (s.push e).outCur = s.outCur := rfl
@[simp] theorem push_pLen (e : List Byte) : (s.push e).pLen = s.pLen := rfl
@[simp] theorem push_pSent (e : List Byte) : (s.push e).pSent = s.pSent := rfl
@[simp] theorem push_pCap (e : List Byte) : (s.push e).pCap = s.pCap := rfl
@[simp] theorem push_pMask (e : List Byte) : (s.push e).pMask = s.pMask := rfl
@[simp] theorem push_rpl (e : List Byte) : (s.push e).rpl = s.rpl := rfl
@[simp] theorem push_wmLatch (e : List Byte) : (s.push e).wmLatch = s.wmLatch := rfl
@[simp] theorem push_esc (e : List Byte) : (s.push e).esc = s.esc := rfl
@[simp] theorem push_timerId (e : List Byte) : (s.push e).timerId = s.timerId := rfl
@[simp] theorem push_linkEn (e : List Byte) : (s.push e).linkEn = s.linkEn := rfl
@[simp] theorem push_clkArmed (e : List Byte) : (s.push e).clkArmed = s.clkArmed := rfl
@[simp] theorem push_ieClk (e : List Byte) : (s.push e).ieClk = s.ieClk := rfl
@[simp] theorem push_ieLnk (e : List Byte) : (s.push e).ieLnk = s.ieLnk := rfl
@[simp] theorem push_clkPend (e : List Byte) : (s.push e).clkPend = s.clkPend := rfl
@[simp] theorem push_lnkPend (e : List Byte) : (s.push e).lnkPend = s.lnkPend := rfl
@[simp] theorem push_rate (e : List Byte) : (s.push e).rate = s.rate := rfl
@[simp] theorem push_divider (e : List Byte) : (s.push e).divider = s.divider := rfl
@[simp] theorem push_version (e : List Byte) : (s.push e).version = s.version := rfl
@[simp] theorem push_curCmd (e : List Byte) : (s.push e).curCmd = s.curCmd := rfl
@[simp] theorem push_tickSeen (e : List Byte) : (s.push e).tickSeen = s.tickSeen := rfl
@[simp] theorem push_tuCount (e : List Byte) : (s.push e).tuCount = s.tuCount := rfl
@[simp] theorem push_env (e : List Byte) : (s.push e).env = s.env := rfl

/-! ### `demote` (R201) -/

@[simp] theorem demote_cfg : s.demote.cfg = s.cfg := rfl
@[simp] theorem demote_inb : s.demote.inb = s.inb := rfl
@[simp] theorem demote_out : s.demote.out = s.out := rfl
@[simp] theorem demote_outCur : s.demote.outCur = s.pSent := rfl
@[simp] theorem demote_pLen : s.demote.pLen = 0 := rfl
@[simp] theorem demote_pSent : s.demote.pSent = 0 := rfl
@[simp] theorem demote_pCap : s.demote.pCap = false := rfl
@[simp] theorem demote_pMask : s.demote.pMask = 0 := rfl
@[simp] theorem demote_rpl : s.demote.rpl = s.rpl := rfl
@[simp] theorem demote_wmLatch : s.demote.wmLatch = s.wmLatch := rfl
@[simp] theorem demote_esc : s.demote.esc = s.esc := rfl
@[simp] theorem demote_timerId : s.demote.timerId = s.timerId := rfl
@[simp] theorem demote_linkEn : s.demote.linkEn = s.linkEn := rfl
@[simp] theorem demote_clkArmed : s.demote.clkArmed = true := rfl
@[simp] theorem demote_ieClk : s.demote.ieClk = s.ieClk := rfl
@[simp] theorem demote_ieLnk : s.demote.ieLnk = s.ieLnk := rfl
@[simp] theorem demote_clkPend : s.demote.clkPend = s.clkPend := rfl
@[simp] theorem demote_lnkPend : s.demote.lnkPend = s.lnkPend := rfl
@[simp] theorem demote_rate : s.demote.rate = s.rate := rfl
@[simp] theorem demote_divider : s.demote.divider = s.divider := rfl
@[simp] theorem demote_version : s.demote.version = s.version := rfl
@[simp] theorem demote_curCmd : s.demote.curCmd = s.curCmd := rfl
@[simp] theorem demote_tickSeen : s.demote.tickSeen = s.tickSeen := rfl
@[simp] theorem demote_tuCount : s.demote.tuCount = s.tuCount := rfl
@[simp] theorem demote_env : s.demote.env = s.env := rfl

/-! ### `dropInbound` (R150) -/

@[simp] theorem dropInbound_cfg (k : Nat) : (s.dropInbound k).cfg = s.cfg := rfl
@[simp] theorem dropInbound_inb (k : Nat) : (s.dropInbound k).inb = s.inb.drop k := rfl
@[simp] theorem dropInbound_out (k : Nat) : (s.dropInbound k).out = s.out := rfl
@[simp] theorem dropInbound_outCur (k : Nat) : (s.dropInbound k).outCur = s.outCur := rfl
@[simp] theorem dropInbound_pLen (k : Nat) : (s.dropInbound k).pLen = s.pLen := rfl
@[simp] theorem dropInbound_pSent (k : Nat) : (s.dropInbound k).pSent = s.pSent := rfl
@[simp] theorem dropInbound_pCap (k : Nat) : (s.dropInbound k).pCap = s.pCap := rfl
@[simp] theorem dropInbound_pMask (k : Nat) : (s.dropInbound k).pMask = s.pMask := rfl
@[simp] theorem dropInbound_rpl (k : Nat) : (s.dropInbound k).rpl = s.rpl := rfl
@[simp] theorem dropInbound_wmLatch (k : Nat) : (s.dropInbound k).wmLatch = s.wmLatch := rfl
@[simp] theorem dropInbound_esc (k : Nat) : (s.dropInbound k).esc = s.esc := rfl
@[simp] theorem dropInbound_timerId (k : Nat) : (s.dropInbound k).timerId = s.timerId := rfl
@[simp] theorem dropInbound_linkEn (k : Nat) : (s.dropInbound k).linkEn = s.linkEn := rfl
@[simp] theorem dropInbound_clkArmed (k : Nat) : (s.dropInbound k).clkArmed = s.clkArmed := rfl
@[simp] theorem dropInbound_ieClk (k : Nat) : (s.dropInbound k).ieClk = s.ieClk := rfl
@[simp] theorem dropInbound_ieLnk (k : Nat) : (s.dropInbound k).ieLnk = s.ieLnk := rfl
@[simp] theorem dropInbound_clkPend (k : Nat) : (s.dropInbound k).clkPend = s.clkPend := rfl
@[simp] theorem dropInbound_lnkPend (k : Nat) : (s.dropInbound k).lnkPend = s.lnkPend := rfl
@[simp] theorem dropInbound_rate (k : Nat) : (s.dropInbound k).rate = s.rate := rfl
@[simp] theorem dropInbound_divider (k : Nat) : (s.dropInbound k).divider = s.divider := rfl
@[simp] theorem dropInbound_version (k : Nat) : (s.dropInbound k).version = s.version := rfl
@[simp] theorem dropInbound_curCmd (k : Nat) : (s.dropInbound k).curCmd = s.curCmd := rfl
@[simp] theorem dropInbound_tickSeen (k : Nat) : (s.dropInbound k).tickSeen = s.tickSeen := rfl
@[simp] theorem dropInbound_tuCount (k : Nat) : (s.dropInbound k).tuCount = s.tuCount := rfl
@[simp] theorem dropInbound_env (k : Nat) : (s.dropInbound k).env = s.env := rfl

/-! ### `openCore` (R240) -/

@[simp] theorem openCore_cfg (id : TimerId) : (s.openCore id).cfg = s.cfg := rfl
@[simp] theorem openCore_inb (id : TimerId) : (s.openCore id).inb = [] := rfl
@[simp] theorem openCore_out (id : TimerId) : (s.openCore id).out = [] := rfl
@[simp] theorem openCore_outCur (id : TimerId) : (s.openCore id).outCur = 0 := rfl
@[simp] theorem openCore_pLen (id : TimerId) : (s.openCore id).pLen = 0 := rfl
@[simp] theorem openCore_pSent (id : TimerId) : (s.openCore id).pSent = 0 := rfl
@[simp] theorem openCore_pCap (id : TimerId) : (s.openCore id).pCap = false := rfl
@[simp] theorem openCore_pMask (id : TimerId) : (s.openCore id).pMask = 0 := rfl
@[simp] theorem openCore_rpl (id : TimerId) : (s.openCore id).rpl = List.replicate s.cfg.outTotal 0 := rfl
@[simp] theorem openCore_wmLatch (id : TimerId) : (s.openCore id).wmLatch = false := rfl
@[simp] theorem openCore_esc (id : TimerId) : (s.openCore id).esc = false := rfl
@[simp] theorem openCore_timerId (id : TimerId) : (s.openCore id).timerId = some id := rfl
@[simp] theorem openCore_linkEn (id : TimerId) : (s.openCore id).linkEn = true := rfl
@[simp] theorem openCore_clkArmed (id : TimerId) : (s.openCore id).clkArmed = true := rfl
@[simp] theorem openCore_ieClk (id : TimerId) : (s.openCore id).ieClk = true := rfl
@[simp] theorem openCore_ieLnk (id : TimerId) : (s.openCore id).ieLnk = true := rfl
@[simp] theorem openCore_clkPend (id : TimerId) : (s.openCore id).clkPend = false := rfl
@[simp] theorem openCore_lnkPend (id : TimerId) : (s.openCore id).lnkPend = false := rfl
@[simp] theorem openCore_rate (id : TimerId) : (s.openCore id).rate = (rateFn s.cfg s.cfg.defaultRate).2 := rfl
@[simp] theorem openCore_divider (id : TimerId) : (s.openCore id).divider = (rateFn s.cfg s.cfg.defaultRate).1 := rfl
@[simp] theorem openCore_version (id : TimerId) : (s.openCore id).version = 0 := rfl
@[simp] theorem openCore_curCmd (id : TimerId) : (s.openCore id).curCmd = s.curCmd := rfl
@[simp] theorem openCore_tickSeen (id : TimerId) : (s.openCore id).tickSeen = s.tickSeen := rfl
@[simp] theorem openCore_tuCount (id : TimerId) : (s.openCore id).tuCount = s.tuCount := rfl
@[simp] theorem openCore_env (id : TimerId) : (s.openCore id).env = s.env := rfl

/-! ### `closeCore` (R242) -/

@[simp] theorem closeCore_cfg : s.closeCore.cfg = s.cfg := rfl
@[simp] theorem closeCore_inb : s.closeCore.inb = s.inb := rfl
@[simp] theorem closeCore_out : s.closeCore.out = s.out := rfl
@[simp] theorem closeCore_outCur : s.closeCore.outCur = s.outCur := rfl
@[simp] theorem closeCore_pLen : s.closeCore.pLen = s.pLen := rfl
@[simp] theorem closeCore_pSent : s.closeCore.pSent = s.pSent := rfl
@[simp] theorem closeCore_pCap : s.closeCore.pCap = s.pCap := rfl
@[simp] theorem closeCore_pMask : s.closeCore.pMask = s.pMask := rfl
@[simp] theorem closeCore_rpl : s.closeCore.rpl = s.rpl := rfl
@[simp] theorem closeCore_wmLatch : s.closeCore.wmLatch = s.wmLatch := rfl
@[simp] theorem closeCore_esc : s.closeCore.esc = s.esc := rfl
@[simp] theorem closeCore_timerId : s.closeCore.timerId = none := rfl
@[simp] theorem closeCore_linkEn : s.closeCore.linkEn = false := rfl
@[simp] theorem closeCore_clkArmed : s.closeCore.clkArmed = false := rfl
@[simp] theorem closeCore_ieClk : s.closeCore.ieClk = false := rfl
@[simp] theorem closeCore_ieLnk : s.closeCore.ieLnk = false := rfl
@[simp] theorem closeCore_clkPend : s.closeCore.clkPend = false := rfl
@[simp] theorem closeCore_lnkPend : s.closeCore.lnkPend = false := rfl
@[simp] theorem closeCore_rate : s.closeCore.rate = s.rate := rfl
@[simp] theorem closeCore_divider : s.closeCore.divider = s.divider := rfl
@[simp] theorem closeCore_version : s.closeCore.version = s.version := rfl
@[simp] theorem closeCore_curCmd : s.closeCore.curCmd = s.curCmd := rfl
@[simp] theorem closeCore_tickSeen : s.closeCore.tickSeen = s.tickSeen := rfl
@[simp] theorem closeCore_tuCount : s.closeCore.tuCount = s.tuCount := rfl
@[simp] theorem closeCore_env : s.closeCore.env = s.env := rfl

/-! ### `setRate` (R243) -/

@[simp] theorem setRate_cfg (r : Word32) : (s.setRate r).cfg = s.cfg := rfl
@[simp] theorem setRate_inb (r : Word32) : (s.setRate r).inb = s.inb := rfl
@[simp] theorem setRate_out (r : Word32) : (s.setRate r).out = s.out := rfl
@[simp] theorem setRate_outCur (r : Word32) : (s.setRate r).outCur = s.outCur := rfl
@[simp] theorem setRate_pLen (r : Word32) : (s.setRate r).pLen = s.pLen := rfl
@[simp] theorem setRate_pSent (r : Word32) : (s.setRate r).pSent = s.pSent := rfl
@[simp] theorem setRate_pCap (r : Word32) : (s.setRate r).pCap = s.pCap := rfl
@[simp] theorem setRate_pMask (r : Word32) : (s.setRate r).pMask = s.pMask := rfl
@[simp] theorem setRate_rpl (r : Word32) : (s.setRate r).rpl = s.rpl := rfl
@[simp] theorem setRate_wmLatch (r : Word32) : (s.setRate r).wmLatch = s.wmLatch := rfl
@[simp] theorem setRate_esc (r : Word32) : (s.setRate r).esc = s.esc := rfl
@[simp] theorem setRate_timerId (r : Word32) : (s.setRate r).timerId = s.timerId := rfl
@[simp] theorem setRate_linkEn (r : Word32) : (s.setRate r).linkEn = s.linkEn := rfl
@[simp] theorem setRate_clkArmed (r : Word32) : (s.setRate r).clkArmed = s.clkArmed := rfl
@[simp] theorem setRate_ieClk (r : Word32) : (s.setRate r).ieClk = s.ieClk := rfl
@[simp] theorem setRate_ieLnk (r : Word32) : (s.setRate r).ieLnk = s.ieLnk := rfl
@[simp] theorem setRate_clkPend (r : Word32) : (s.setRate r).clkPend = s.clkPend := rfl
@[simp] theorem setRate_lnkPend (r : Word32) : (s.setRate r).lnkPend = s.lnkPend := rfl
@[simp] theorem setRate_rate (r : Word32) : (s.setRate r).rate = (rateFn s.cfg r).2 := rfl
@[simp] theorem setRate_divider (r : Word32) : (s.setRate r).divider = (rateFn s.cfg r).1 := rfl
@[simp] theorem setRate_version (r : Word32) : (s.setRate r).version = s.version := rfl
@[simp] theorem setRate_curCmd (r : Word32) : (s.setRate r).curCmd = s.curCmd := rfl
@[simp] theorem setRate_tickSeen (r : Word32) : (s.setRate r).tickSeen = s.tickSeen := rfl
@[simp] theorem setRate_tuCount (r : Word32) : (s.setRate r).tuCount = s.tuCount := rfl
@[simp] theorem setRate_env (r : Word32) : (s.setRate r).env = s.env := rfl

/-! ### `clearTick` (R245) -/

@[simp] theorem clearTick_cfg : s.clearTick.cfg = s.cfg := rfl
@[simp] theorem clearTick_inb : s.clearTick.inb = s.inb := rfl
@[simp] theorem clearTick_out : s.clearTick.out = s.out := rfl
@[simp] theorem clearTick_outCur : s.clearTick.outCur = s.outCur := rfl
@[simp] theorem clearTick_pLen : s.clearTick.pLen = s.pLen := rfl
@[simp] theorem clearTick_pSent : s.clearTick.pSent = s.pSent := rfl
@[simp] theorem clearTick_pCap : s.clearTick.pCap = s.pCap := rfl
@[simp] theorem clearTick_pMask : s.clearTick.pMask = s.pMask := rfl
@[simp] theorem clearTick_rpl : s.clearTick.rpl = s.rpl := rfl
@[simp] theorem clearTick_wmLatch : s.clearTick.wmLatch = s.wmLatch := rfl
@[simp] theorem clearTick_esc : s.clearTick.esc = s.esc := rfl
@[simp] theorem clearTick_timerId : s.clearTick.timerId = s.timerId := rfl
@[simp] theorem clearTick_linkEn : s.clearTick.linkEn = s.linkEn := rfl
@[simp] theorem clearTick_clkArmed : s.clearTick.clkArmed = s.clkArmed := rfl
@[simp] theorem clearTick_ieClk : s.clearTick.ieClk = s.ieClk := rfl
@[simp] theorem clearTick_ieLnk : s.clearTick.ieLnk = s.ieLnk := rfl
@[simp] theorem clearTick_clkPend : s.clearTick.clkPend = s.clkPend := rfl
@[simp] theorem clearTick_lnkPend : s.clearTick.lnkPend = s.lnkPend := rfl
@[simp] theorem clearTick_rate : s.clearTick.rate = s.rate := rfl
@[simp] theorem clearTick_divider : s.clearTick.divider = s.divider := rfl
@[simp] theorem clearTick_version : s.clearTick.version = s.version := rfl
@[simp] theorem clearTick_curCmd : s.clearTick.curCmd = s.curCmd := rfl
@[simp] theorem clearTick_tickSeen : s.clearTick.tickSeen = false := rfl
@[simp] theorem clearTick_tuCount : s.clearTick.tuCount = s.tuCount := rfl
@[simp] theorem clearTick_env : s.clearTick.env = s.env := rfl

/-! ### `clearTimeUnits` (R201) -/

@[simp] theorem clearTimeUnits_cfg : s.clearTimeUnits.cfg = s.cfg := rfl
@[simp] theorem clearTimeUnits_inb : s.clearTimeUnits.inb = s.inb := rfl
@[simp] theorem clearTimeUnits_out : s.clearTimeUnits.out = s.out := rfl
@[simp] theorem clearTimeUnits_outCur : s.clearTimeUnits.outCur = s.outCur := rfl
@[simp] theorem clearTimeUnits_pLen : s.clearTimeUnits.pLen = s.pLen := rfl
@[simp] theorem clearTimeUnits_pSent : s.clearTimeUnits.pSent = s.pSent := rfl
@[simp] theorem clearTimeUnits_pCap : s.clearTimeUnits.pCap = s.pCap := rfl
@[simp] theorem clearTimeUnits_pMask : s.clearTimeUnits.pMask = s.pMask := rfl
@[simp] theorem clearTimeUnits_rpl : s.clearTimeUnits.rpl = s.rpl := rfl
@[simp] theorem clearTimeUnits_wmLatch : s.clearTimeUnits.wmLatch = s.wmLatch := rfl
@[simp] theorem clearTimeUnits_esc : s.clearTimeUnits.esc = s.esc := rfl
@[simp] theorem clearTimeUnits_timerId : s.clearTimeUnits.timerId = s.timerId := rfl
@[simp] theorem clearTimeUnits_linkEn : s.clearTimeUnits.linkEn = s.linkEn := rfl
@[simp] theorem clearTimeUnits_clkArmed : s.clearTimeUnits.clkArmed = s.clkArmed := rfl
@[simp] theorem clearTimeUnits_ieClk : s.clearTimeUnits.ieClk = s.ieClk := rfl
@[simp] theorem clearTimeUnits_ieLnk : s.clearTimeUnits.ieLnk = s.ieLnk := rfl
@[simp] theorem clearTimeUnits_clkPend : s.clearTimeUnits.clkPend = s.clkPend := rfl
@[simp] theorem clearTimeUnits_lnkPend : s.clearTimeUnits.lnkPend = s.lnkPend := rfl
@[simp] theorem clearTimeUnits_rate : s.clearTimeUnits.rate = s.rate := rfl
@[simp] theorem clearTimeUnits_divider : s.clearTimeUnits.divider = s.divider := rfl
@[simp] theorem clearTimeUnits_version : s.clearTimeUnits.version = s.version := rfl
@[simp] theorem clearTimeUnits_curCmd : s.clearTimeUnits.curCmd = s.curCmd := rfl
@[simp] theorem clearTimeUnits_tickSeen : s.clearTimeUnits.tickSeen = s.tickSeen := rfl
@[simp] theorem clearTimeUnits_tuCount : s.clearTimeUnits.tuCount = 0 := rfl
@[simp] theorem clearTimeUnits_env : s.clearTimeUnits.env = s.env := rfl

/-! ### `transmit` (R221) -/

@[simp] theorem transmit_cfg : s.transmit.cfg = s.cfg := rfl
@[simp] theorem transmit_inb : s.transmit.inb = s.inb := rfl
@[simp] theorem transmit_out : s.transmit.out = s.out := rfl
@[simp] theorem transmit_outCur : s.transmit.outCur = if s.txQueued then s.outCur + 1 else s.outCur := rfl
@[simp] theorem transmit_pLen : s.transmit.pLen = s.pLen := rfl
@[simp] theorem transmit_pSent : s.transmit.pSent = s.pSent := rfl
@[simp] theorem transmit_pCap : s.transmit.pCap = s.pCap := rfl
@[simp] theorem transmit_pMask : s.transmit.pMask = s.pMask := rfl
@[simp] theorem transmit_rpl : s.transmit.rpl = s.rpl := rfl
@[simp] theorem transmit_wmLatch : s.transmit.wmLatch = s.wmLatch := rfl
@[simp] theorem transmit_esc : s.transmit.esc = s.esc := rfl
@[simp] theorem transmit_timerId : s.transmit.timerId = s.timerId := rfl
@[simp] theorem transmit_linkEn : s.transmit.linkEn = s.linkEn := rfl
@[simp] theorem transmit_clkArmed : s.transmit.clkArmed = s.clkArmed := rfl
@[simp] theorem transmit_ieClk : s.transmit.ieClk = s.ieClk := rfl
@[simp] theorem transmit_ieLnk : s.transmit.ieLnk = s.ieLnk := rfl
@[simp] theorem transmit_clkPend : s.transmit.clkPend = s.clkPend := rfl
@[simp] theorem transmit_lnkPend : s.transmit.lnkPend = s.lnkPend := rfl
@[simp] theorem transmit_rate : s.transmit.rate = s.rate := rfl
@[simp] theorem transmit_divider : s.transmit.divider = s.divider := rfl
@[simp] theorem transmit_version : s.transmit.version = s.version := rfl
@[simp] theorem transmit_curCmd : s.transmit.curCmd = s.curCmd := rfl
@[simp] theorem transmit_tickSeen : s.transmit.tickSeen = s.tickSeen := rfl
@[simp] theorem transmit_tuCount : s.transmit.tuCount = s.tuCount := rfl
@[simp] theorem transmit_env : s.transmit.env = { s.env with wire := s.env.wire ++ [s.txByte] } := rfl

/-! ### `rearm` (R222) -/

@[simp] theorem rearm_cfg : s.rearm.cfg = s.cfg := rfl
@[simp] theorem rearm_inb : s.rearm.inb = s.inb := rfl
@[simp] theorem rearm_out : s.rearm.out = s.out := rfl
@[simp] theorem rearm_outCur : s.rearm.outCur = s.outCur := rfl
@[simp] theorem rearm_pLen : s.rearm.pLen = s.pLen := rfl
@[simp] theorem rearm_pSent : s.rearm.pSent = s.pSent := rfl
@[simp] theorem rearm_pCap : s.rearm.pCap = s.pCap := rfl
@[simp] theorem rearm_pMask : s.rearm.pMask = s.pMask := rfl
@[simp] theorem rearm_rpl : s.rearm.rpl = s.rpl := rfl
@[simp] theorem rearm_wmLatch : s.rearm.wmLatch = s.wmLatch := rfl
@[simp] theorem rearm_esc : s.rearm.esc = s.esc := rfl
@[simp] theorem rearm_timerId : s.rearm.timerId = s.timerId := rfl
@[simp] theorem rearm_linkEn : s.rearm.linkEn = s.linkEn := rfl
@[simp] theorem rearm_clkArmed : s.rearm.clkArmed = true := rfl
@[simp] theorem rearm_ieClk : s.rearm.ieClk = s.ieClk := rfl
@[simp] theorem rearm_ieLnk : s.rearm.ieLnk = s.ieLnk := rfl
@[simp] theorem rearm_clkPend : s.rearm.clkPend = s.clkPend := rfl
@[simp] theorem rearm_lnkPend : s.rearm.lnkPend = s.lnkPend := rfl
@[simp] theorem rearm_rate : s.rearm.rate = s.rate := rfl
@[simp] theorem rearm_divider : s.rearm.divider = s.divider := rfl
@[simp] theorem rearm_version : s.rearm.version = s.version := rfl
@[simp] theorem rearm_curCmd : s.rearm.curCmd = s.curCmd := rfl
@[simp] theorem rearm_tickSeen : s.rearm.tickSeen = s.tickSeen := rfl
@[simp] theorem rearm_tuCount : s.rearm.tuCount = s.tuCount := rfl
@[simp] theorem rearm_env : s.rearm.env = s.env := rfl

/-! ### `priorityStep` (R223) -/

@[simp] theorem priorityStep_cfg (rx : Byte) : (s.priorityStep rx).cfg = s.cfg := rfl
@[simp] theorem priorityStep_inb (rx : Byte) : (s.priorityStep rx).inb = s.inb := rfl
@[simp] theorem priorityStep_out (rx : Byte) : (s.priorityStep rx).out = s.out := rfl
@[simp] theorem priorityStep_outCur (rx : Byte) : (s.priorityStep rx).outCur = s.outCur := rfl
@[simp] theorem priorityStep_pLen (rx : Byte) : (s.priorityStep rx).pLen = s.pLen := rfl
@[simp] theorem priorityStep_pSent (rx : Byte) : (s.priorityStep rx).pSent = s.pSent + 1 := rfl
@[simp] theorem priorityStep_pCap (rx : Byte) : (s.priorityStep rx).pCap = s.pCap := rfl
@[simp] theorem priorityStep_pMask (rx : Byte) : (s.priorityStep rx).pMask = s.pMask := rfl
@[simp] theorem priorityStep_rpl (rx : Byte) : (s.priorityStep rx).rpl = if hdrLen ≤ s.pSent ∧ s.pCap = true then s.rpl.set s.pSent rx else s.rpl := rfl
@[simp] theorem priorityStep_wmLatch (rx : Byte) : (s.priorityStep rx).wmLatch = s.wmLatch := rfl
@[simp] theorem priorityStep_esc (rx : Byte) : (s.priorityStep rx).esc = s.esc := rfl
@[simp] theorem priorityStep_timerId (rx : Byte) : (s.priorityStep rx).timerId = s.timerId := rfl
@[simp] theorem priorityStep_linkEn (rx : Byte) : (s.priorityStep rx).linkEn = s.linkEn := rfl
@[simp] theorem priorityStep_clkArmed (rx : Byte) : (s.priorityStep rx).clkArmed = if s.suspends then false else s.clkArmed := rfl
@[simp] theorem priorityStep_ieClk (rx : Byte) : (s.priorityStep rx).ieClk = s.ieClk := rfl
@[simp] theorem priorityStep_ieLnk (rx : Byte) : (s.priorityStep rx).ieLnk = s.ieLnk := rfl
@[simp] theorem priorityStep_clkPend (rx : Byte) : (s.priorityStep rx).clkPend = s.clkPend := rfl
@[simp] theorem priorityStep_lnkPend (rx : Byte) : (s.priorityStep rx).lnkPend = s.lnkPend := rfl
@[simp] theorem priorityStep_rate (rx : Byte) : (s.priorityStep rx).rate = s.rate := rfl
@[simp] theorem priorityStep_divider (rx : Byte) : (s.priorityStep rx).divider = s.divider := rfl
@[simp] theorem priorityStep_version (rx : Byte) : (s.priorityStep rx).version = s.version := rfl
@[simp] theorem priorityStep_curCmd (rx : Byte) : (s.priorityStep rx).curCmd = s.curCmd := rfl
@[simp] theorem priorityStep_tickSeen (rx : Byte) : (s.priorityStep rx).tickSeen = s.tickSeen := rfl
@[simp] theorem priorityStep_tuCount (rx : Byte) : (s.priorityStep rx).tuCount = s.tuCount := rfl
@[simp] theorem priorityStep_env (rx : Byte) : (s.priorityStep rx).env = s.env := rfl

/-! ### `endTransaction` (R220) -/

@[simp] theorem endTransaction_cfg : s.endTransaction.cfg = s.cfg := rfl
@[simp] theorem endTransaction_inb : s.endTransaction.inb = s.inb := rfl
@[simp] theorem endTransaction_out : s.endTransaction.out = s.out := rfl
@[simp] theorem endTransaction_outCur : s.endTransaction.outCur = s.outCur := rfl
@[simp] theorem endTransaction_pLen : s.endTransaction.pLen = s.pLen := rfl
@[simp] theorem endTransaction_pSent : s.endTransaction.pSent = s.pSent := rfl
@[simp] theorem endTransaction_pCap : s.endTransaction.pCap = s.pCap := rfl
@[simp] theorem endTransaction_pMask : s.endTransaction.pMask = s.pMask := rfl
@[simp] theorem endTransaction_rpl : s.endTransaction.rpl = s.rpl := rfl
@[simp] theorem endTransaction_wmLatch : s.endTransaction.wmLatch = s.wmLatch := rfl
@[simp] theorem endTransaction_esc : s.endTransaction.esc = s.esc := rfl
@[simp] theorem endTransaction_timerId : s.endTransaction.timerId = s.timerId := rfl
@[simp] theorem endTransaction_linkEn : s.endTransaction.linkEn = s.linkEn := rfl
@[simp] theorem endTransaction_clkArmed : s.endTransaction.clkArmed = s.clkArmed := rfl
@[simp] theorem endTransaction_ieClk : s.endTransaction.ieClk = s.ieClk := rfl
@[simp] theorem endTransaction_ieLnk : s.endTransaction.ieLnk = s.ieLnk := rfl
@[simp] theorem endTransaction_clkPend : s.endTransaction.clkPend = s.clkPend := rfl
@[simp] theorem endTransaction_lnkPend : s.endTransaction.lnkPend = s.lnkPend := rfl
@[simp] theorem endTransaction_rate : s.endTransaction.rate = s.rate := rfl
@[simp] theorem endTransaction_divider : s.endTransaction.divider = s.divider := rfl
@[simp] theorem endTransaction_version : s.endTransaction.version = s.version := rfl
@[simp] theorem endTransaction_curCmd : s.endTransaction.curCmd = s.curCmd := rfl
@[simp] theorem endTransaction_tickSeen : s.endTransaction.tickSeen = true := rfl
@[simp] theorem endTransaction_tuCount : s.endTransaction.tuCount = s.tuCount := rfl
@[simp] theorem endTransaction_env : s.endTransaction.env = s.env := rfl

/-! ### `withHostBytes` (R90) -/

@[simp] theorem withHostBytes_cfg (r : List Byte) : (s.withHostBytes r).cfg = s.cfg := rfl
@[simp] theorem withHostBytes_inb (r : List Byte) : (s.withHostBytes r).inb = s.inb := rfl
@[simp] theorem withHostBytes_out (r : List Byte) : (s.withHostBytes r).out = s.out := rfl
@[simp] theorem withHostBytes_outCur (r : List Byte) : (s.withHostBytes r).outCur = s.outCur := rfl
@[simp] theorem withHostBytes_pLen (r : List Byte) : (s.withHostBytes r).pLen = s.pLen := rfl
@[simp] theorem withHostBytes_pSent (r : List Byte) : (s.withHostBytes r).pSent = s.pSent := rfl
@[simp] theorem withHostBytes_pCap (r : List Byte) : (s.withHostBytes r).pCap = s.pCap := rfl
@[simp] theorem withHostBytes_pMask (r : List Byte) : (s.withHostBytes r).pMask = s.pMask := rfl
@[simp] theorem withHostBytes_rpl (r : List Byte) : (s.withHostBytes r).rpl = s.rpl := rfl
@[simp] theorem withHostBytes_wmLatch (r : List Byte) : (s.withHostBytes r).wmLatch = s.wmLatch := rfl
@[simp] theorem withHostBytes_esc (r : List Byte) : (s.withHostBytes r).esc = s.esc := rfl
@[simp] theorem withHostBytes_timerId (r : List Byte) : (s.withHostBytes r).timerId = s.timerId := rfl
@[simp] theorem withHostBytes_linkEn (r : List Byte) : (s.withHostBytes r).linkEn = s.linkEn := rfl
@[simp] theorem withHostBytes_clkArmed (r : List Byte) : (s.withHostBytes r).clkArmed = s.clkArmed := rfl
@[simp] theorem withHostBytes_ieClk (r : List Byte) : (s.withHostBytes r).ieClk = s.ieClk := rfl
@[simp] theorem withHostBytes_ieLnk (r : List Byte) : (s.withHostBytes r).ieLnk = s.ieLnk := rfl
@[simp] theorem withHostBytes_clkPend (r : List Byte) : (s.withHostBytes r).clkPend = s.clkPend := rfl
@[simp] theorem withHostBytes_lnkPend (r : List Byte) : (s.withHostBytes r).lnkPend = s.lnkPend := rfl
@[simp] theorem withHostBytes_rate (r : List Byte) : (s.withHostBytes r).rate = s.rate := rfl
@[simp] theorem withHostBytes_divider (r : List Byte) : (s.withHostBytes r).divider = s.divider := rfl
@[simp] theorem withHostBytes_version (r : List Byte) : (s.withHostBytes r).version = s.version := rfl
@[simp] theorem withHostBytes_curCmd (r : List Byte) : (s.withHostBytes r).curCmd = s.curCmd := rfl
@[simp] theorem withHostBytes_tickSeen (r : List Byte) : (s.withHostBytes r).tickSeen = s.tickSeen := rfl
@[simp] theorem withHostBytes_tuCount (r : List Byte) : (s.withHostBytes r).tuCount = s.tuCount := rfl
@[simp] theorem withHostBytes_env (r : List Byte) : (s.withHostBytes r).env = { s.env with hostBytes := r } := rfl

@[simp] theorem finishWith_eq (st : Status) : s.finishWith st = s.finish st 0 [] := rfl

end Sys2Proof.Machine
end

