-- ==== Sys2Proof/Laws/Ops.lean ====
section
/-! SUPPORT. For each shared operation one lemma that says once everything it can do. -/

namespace Sys2Proof.Machine

/-! ### Draws -/

/-- A turn comes from the list of turns, or is free; only the environment changes. -/
theorem drawTurn_spec (s : State) :
    (∃ t ts, s.env.turns = t :: ts ∧ s.drawTurn = (t, { s with env := { s.env with turns := ts } })) ∨
    (s.env.turns = [] ∧
      s.drawTurn = (Config.freeTurn s.env.draws, { s with env := { s.env with draws := s.env.draws + 1 } })) := by
  unfold State.drawTurn
  cases h : s.env.turns with
  | nil => exact .inr ⟨rfl, rfl⟩
  | cons t ts => exact .inl ⟨t, ts, rfl, rfl⟩

/-- A received byte comes from the list of peer bytes, or is free; only the environment changes. -/
theorem drawPeerByte_spec (s : State) :
    (∃ b bs, s.env.peerBytes = b :: bs ∧
      s.drawPeerByte = (b, { s with env := { s.env with peerBytes := bs } })) ∨
    (s.env.peerBytes = [] ∧ s.drawPeerByte =
      (Config.freePeerByte s.env.draws, { s with env := { s.env with draws := s.env.draws + 1 } })) := by
  unfold State.drawPeerByte
  cases h : s.env.peerBytes with
  | nil => exact .inr ⟨rfl, rfl⟩
  | cons t ts => exact .inl ⟨t, ts, rfl, rfl⟩

/-- A probe answer comes from the list of answers, or is free; only the environment changes. -/
theorem drawProbe_spec (s : State) :
    (∃ a as, s.env.probes = a :: as ∧ s.drawProbe = (a, { s with env := { s.env with probes := as } })) ∨
    (s.env.probes = [] ∧
      s.drawProbe = (Config.freeProbe s.env.draws, { s with env := { s.env with draws := s.env.draws + 1 } })) := by
  unfold State.drawProbe
  cases h : s.env.probes with
  | nil => exact .inr ⟨rfl, rfl⟩
  | cons t ts => exact .inl ⟨t, ts, rfl, rfl⟩

/-- A draw of a turn leaves every element of the core and the response port as they are. -/
theorem drawTurn_state (s : State) :
    ∃ e, s.drawTurn.2 = { s with env := e } ∧ e.response = s.env.response ∧ e.hostBytes = s.env.hostBytes ∧
      e.wire = s.env.wire ∧ e.peerBytes = s.env.peerBytes := by
  rcases drawTurn_spec s with ⟨t, ts, -, h⟩ | ⟨-, h⟩ <;> rw [h] <;> exact ⟨_, rfl, rfl, rfl, rfl, rfl⟩

/-- A draw of a received byte leaves every element of the core, the response port and the wire as they are. -/
theorem drawPeerByte_state (s : State) :
    ∃ e, s.drawPeerByte.2 = { s with env := e } ∧ e.response = s.env.response ∧ e.wire = s.env.wire ∧
      e.hostBytes = s.env.hostBytes := by
  rcases drawPeerByte_spec s with ⟨t, ts, -, h⟩ | ⟨-, h⟩ <;> rw [h] <;> exact ⟨_, rfl, rfl, rfl, rfl⟩

/-- A draw of a probe answer leaves every element of the core and the response port as they are. -/
theorem drawProbe_state (s : State) :
    ∃ e, s.drawProbe.2 = { s with env := e } ∧ e.response = s.env.response := by
  rcases drawProbe_spec s with ⟨t, ts, -, h⟩ | ⟨-, h⟩ <;> rw [h] <;> exact ⟨_, rfl, rfl⟩

/-! ### The conditions -/

/-- R41 -/
theorem isOpen_iff {s : State} : s.isOpen = true ↔ s.timerId ≠ none := by
  unfold State.isOpen; cases s.timerId <;> simp

/-- R45 -/
theorem inFlight_iff {s : State} : s.inFlight = true ↔ s.pSent < s.pLen := by simp [State.inFlight]

/-- R175 -/
theorem drained_iff {s : State} : s.drained = true ↔ s.outCur = s.out.length := by simp [State.drained]

/-- R142 -/
theorem highDue_iff {s : State} : s.highDue = true ↔
    s.cfg.hiPct ≠ 0 ∧ s.cfg.inCap * s.cfg.hiPct / 100 ≤ s.inb.length ∧ s.wmLatch = false := by
  simp only [State.highDue, Bool.and_eq_true, decide_eq_true_eq, Bool.not_eq_true', and_assoc]; rfl

/-- R145 -/
theorem lowDue_iff {s : State} : s.lowDue = true ↔
    s.cfg.loPct ≠ 0 ∧ s.inb.length ≤ s.cfg.inCap * s.cfg.loPct / 100 ∧ s.wmLatch = true := by
  simp only [State.lowDue, Bool.and_eq_true, decide_eq_true_eq, and_assoc]; rfl

/-- R201, R241 -/
theorem timedOut_iff {s : State} {t : Nat} : s.timedOut t = true ↔ t ≠ 0 ∧ t ≤ s.tuCount.toNat := by
  simp [State.timedOut]

/-- R221 -/
theorem txQueued_iff {s : State} : s.txQueued = true ↔ s.outCur < s.out.length := by simp [State.txQueued]

/-- R223, R195 -/
theorem suspends_iff {s : State} : s.suspends = true ↔
    s.pLen - 1 - s.pSent < 32 ∧ s.pMask.getLsbD (s.pLen - 1 - s.pSent) = true := by simp [State.suspends]

/-! ### The outbound buffer -/

/-- R131, R136: an expansion has one or two bytes. -/
theorem escape_length (b : Byte) : (escape b).length = if b = 0x00 ∨ b = escMark then 2 else 1 := by
  unfold escape; split <;> rfl

/-- R171: CompactIfIdle is Compact or nothing. -/
theorem compactIfIdle_spec (s : State) :
    (s.inFlight = true ∧ s.compactIfIdle = s) ∨ (s.inFlight = false ∧ s.compactIfIdle = s.compact) := by
  unfold State.compactIfIdle
  cases s.inFlight <;> simp

/-- R172: WriteCore's loop appends whole expansions of a prefix of the source within OUT_CAP, and stops only at
the end of the source or at an expansion that does not fit. -/
theorem writeLoop_spec (src : List Byte) : ∀ s : State,
    (s.writeLoop src).1 ≤ src.length ∧
    (s.writeLoop src).2 = s.push ((src.take (s.writeLoop src).1).flatMap escape) ∧
    ((s.writeLoop src).1 ≠ 0 → (s.writeLoop src).2.out.length ≤ s.cfg.outCap) ∧
    (∀ b, src[(s.writeLoop src).1]? = some b →
      s.cfg.outCap < (s.writeLoop src).2.out.length + (escape b).length) := by
  induction src with
  | nil => intro s; simp [State.writeLoop, State.push]
  | cons b bs ih =>
    intro s
    by_cases h : s.fits (escape b) = true
    · obtain ⟨h1, h2, h3, h4⟩ := ih (s.push (escape b))
      have hl : s.writeLoop (b :: bs) =
          (((s.push (escape b)).writeLoop bs).1 + 1, ((s.push (escape b)).writeLoop bs).2) := by
        simp [State.writeLoop, h]
      rw [hl]
      refine ⟨by simpa using h1, ?_, ?_, ?_⟩
      · rw [h2]; simp [State.push, List.append_assoc]
      · intro _
        by_cases h0 : ((s.push (escape b)).writeLoop bs).1 = 0
        · rw [h2, h0]
          have := h; simp only [State.fits, decide_eq_true_eq] at this
          simpa using this
        · simpa using h3 h0
      · intro c hc
        simpa using h4 c (by simpa using hc)
    · have hl : s.writeLoop (b :: bs) = (0, s) := by simp [State.writeLoop, h]
      rw [hl]
      refine ⟨by simp, by simp [State.push], by simp, ?_⟩
      intro c hc
      simp only [List.getElem?_cons_zero, Option.some.injEq] at hc
      subst hc
      simpa [State.fits] using h

/-! ### The priority channel -/

/-- R190: PrioInsert puts an admitted frame, and nothing else, at the front, or changes nothing. -/
theorem prioInsert_spec (s : State) (f : List Byte) (cap : Bool) (mask : Word32) :
    (f.length ≤ s.cfg.outTotal ∧ s.prioInsert f cap mask = (.ok, s.insertFrame f cap mask)) ∨
    (s.cfg.outTotal < f.length ∧ s.prioInsert f cap mask = (.priorityRejected, s)) := by
  unfold State.prioInsert State.frameFits
  by_cases h : f.length ≤ s.cfg.outTotal
  · exact .inl ⟨h, by simp [h]⟩
  · exact .inr ⟨by omega, by simp [h]⟩

/-- R190: everything the insertion changes: the untransmitted bytes keep their order behind the frame and lose
their tail beyond OUT_TOTAL. -/
theorem insertFrame_eq (s : State) (f : List Byte) (cap : Bool) (mask : Word32) :
    s.insertFrame f cap mask = { s with
      out := f ++ (s.out.drop s.outCur).take (s.cfg.outTotal - f.length)
      outCur := 0, pLen := f.length, pSent := 0, pCap := cap, pMask := mask
      rpl := if cap then f ++ s.rpl.drop f.length else s.rpl } := by
  unfold State.insertFrame
  by_cases h : f.length + (s.out.drop s.outCur).length > s.cfg.outTotal
  · simp [State.compact] at h ⊢; simp [h]
  · have hl : (s.out.drop s.outCur).length ≤ s.cfg.outTotal - f.length := by omega
    have ht := List.take_of_length_le hl
    simp only [State.compact, h, if_false, ht]

/-! ### The inbound buffer -/

/-- R140: eviction removes the oldest block of a full IN. -/
theorem evict_spec (s : State) :
    (s.cfg.inCap ≤ s.inb.length ∧ s.evict = { s with inb := s.inb.drop s.cfg.evictK }) ∨
    (s.inb.length < s.cfg.inCap ∧ s.evict = s) := by
  unfold State.evict
  by_cases h : s.inb.length ≥ s.cfg.inCap
  · exact .inl ⟨h, by simp [h]⟩
  · exact .inr ⟨by omega, by simp [h]⟩

/-- R142: HighCheck does nothing, or inserts the high-water notice and sets the latch. -/
theorem highCheck_spec (s : State) :
    (s.highDue = true ∧ s.highCheck = { (s.prioInsert highWaterFrame false 0).2 with wmLatch := true }) ∨
    (s.highDue = false ∧ s.highCheck = s) := by
  unfold State.highCheck
  cases s.highDue <;> simp

/-- R145: LowCheck does nothing, or inserts the low-water notice and clears the latch. -/
theorem lowCheck_spec (s : State) :
    (s.lowDue = true ∧ s.lowCheck = { (s.prioInsert lowWaterFrame false 0).2 with wmLatch := false }) ∨
    (s.lowDue = false ∧ s.lowCheck = s) := by
  unfold State.lowCheck
  cases s.lowDue <;> simp

/-! ### The transaction -/

/-- R220: a received byte goes to exactly one of step 4 and step 5. -/
theorem receive_spec (s : State) (rx : Byte) :
    (s.inFlight = true ∧ s.receive rx = s.priorityStep rx) ∨
    (s.inFlight = false ∧ s.receive rx = s.filterStep rx) := by
  unfold State.receive
  cases s.inFlight <;> simp

/-- R224: step 5 writes ESC and appends at most one byte. -/
theorem filterStep_spec (s : State) (rx : Byte) :
    (∃ d, (unescape rx s.esc).1 = some d ∧
      s.filterStep rx = State.inAppend { s with esc := (unescape rx s.esc).2 } d) ∨
    ((unescape rx s.esc).1 = none ∧ s.filterStep rx = { s with esc := (unescape rx s.esc).2 }) := by
  unfold State.filterStep
  cases h : (unescape rx s.esc).1 with
  | none => exact .inr ⟨rfl, by simp [h]⟩
  | some d => exact .inl ⟨d, rfl, by simp [h]⟩

/-! ### The command unit -/

/-- R90, R98: what the idle Command unit finds. -/
theorem fetchCommand_spec (s : State) :
    (∃ i rest, s.env.response = [] ∧ decode s.env.hostBytes = .instr i rest ∧
      fetchCommand s = .run i (s.withHostBytes rest)) ∨
    (∃ why rest, s.env.response = [] ∧ decode s.env.hostBytes = .bad why rest ∧
      fetchCommand s = .answered ((s.withHostBytes rest).finish .badCommand 0 [])) ∨
    ((s.env.response ≠ [] ∨ decode s.env.hostBytes = .incomplete) ∧ fetchCommand s = .idle) := by
  unfold fetchCommand
  by_cases h : s.env.response = []
  · cases hd : decode s.env.hostBytes with
    | instr i rest => exact .inl ⟨i, rest, h, rfl, by simp [h]⟩
    | bad why rest => exact .inr (.inl ⟨why, rest, h, rfl, by simp [h]⟩)
    | incomplete => exact .inr (.inr ⟨.inr rfl, by simp [h]⟩)
  · exact .inr (.inr ⟨.inl h, by simp [h]⟩)

/-- R99 item 3: a command that needs an open core runs, or finishes CLOSED. -/
theorem whenOpen_spec (s : State) (run : State → State) :
    (s.isOpen = true ∧ s.whenOpen run = run s) ∨
    (s.isOpen = false ∧ s.whenOpen run = s.finish .closed 0 []) := by
  unfold State.whenOpen
  cases s.isOpen <;> simp

end Sys2Proof.Machine
end

