-- ==== Sys2Proof/Laws/Invariant.lean ====
section
/-! SUPPORT. Each shared operation keeps the invariant of Safety.lean: the counterpart, for a core without
addressed memory (20_memory.md R70), of the lemma that every memory operation keeps memory's canonical form. -/

namespace Sys2Proof.Machine

variable {s : State}

theorem highWaterFrame_length : highWaterFrame.length = 3 := rfl
theorem lowWaterFrame_length : lowWaterFrame.length = 3 := rfl
theorem versionFrame_length : versionFrame.length = 3 := rfl

namespace State.Inv

/-- Only the environment changes, and a waiting command keeps an empty response port. -/
theorem setEnv (h : s.Inv) (e : Env) (hr : s.env.response = [] → e.response = []) :
    State.Inv { s with env := e } :=
  { h with waiting := fun hc => ⟨(h.waiting hc).1, hr (h.waiting hc).2⟩ }

theorem finish (h : s.Inv) (st : Status) (v : Word32) (d : List Byte) : (s.finish st v d).Inv :=
  { h with
    waiting := fun hc => absurd rfl hc
    legal := fun _ hc => by cases hc }

theorem await (h : s.Inv) (ho : s.timerId ≠ none) (hr : s.env.response = []) {c : CurCmd} (hc : c.Legal s.cfg) :
    (s.await c).Inv :=
  { h with
    waiting := fun _ => ⟨ho, hr⟩
    legal := fun d hd => by cases hd; exact hc }

theorem compact (h : s.Inv) (hi : s.inFlight = false) : s.compact.Inv :=
  { h with
    cursor := Nat.zero_le _
    outbound := by
      have := h.outbound
      simp only [compact_out, compact_cfg, List.length_drop]; omega
    flight := fun hf => by simp [State.inFlight] at hi; simp at hf; omega }

theorem compactIfIdle (h : s.Inv) : s.compactIfIdle.Inv := by
  rcases compactIfIdle_spec s with ⟨-, e⟩ | ⟨hi, e⟩ <;> rw [e]
  · exact h
  · exact h.compact hi

theorem push (h : s.Inv) {e : List Byte} (hf : s.out.length + e.length ≤ s.cfg.outTotal) : (s.push e).Inv :=
  { h with
    cursor := by have := h.cursor; simp only [push_outCur, push_out, List.length_append]; omega
    outbound := by simpa using hf
    flight := fun hl => by
      have := h.flight hl
      refine ⟨this.1, ?_⟩
      simp only [push_pLen, push_out, List.length_append]; omega }

theorem writeLoop (h : s.Inv) (src : List Byte) : (s.writeLoop src).2.Inv := by
  obtain ⟨-, h2, h3, -⟩ := writeLoop_spec src s
  by_cases h0 : (s.writeLoop src).1 = 0
  · rw [h2, h0]
    exact h.push (by simpa using h.outbound)
  · have := h3 h0
    rw [h2] at this ⊢
    refine h.push ?_
    simp only [push_out, List.length_append] at this
    have : s.cfg.outCap ≤ s.cfg.outTotal := Nat.le_add_right _ _
    omega

theorem insertFrame (h : s.Inv) {f : List Byte} (hf : f.length ≤ s.cfg.outTotal) (cap : Bool) (mask : Word32) :
    (s.insertFrame f cap mask).Inv := by
  rw [insertFrame_eq]
  refine { h with
    cursor := Nat.zero_le _
    outbound := ?_
    sent := Nat.zero_le _
    frame := hf
    flight := fun _ => ⟨rfl, ?_⟩
    reply := ?_ }
  · simp only [List.length_append, List.length_take]; omega
  · simp
  · have := h.reply
    cases cap <;> simp <;> omega

theorem prioInsert (h : s.Inv) (f : List Byte) (cap : Bool) (mask : Word32) : (s.prioInsert f cap mask).2.Inv := by
  rcases prioInsert_spec s f cap mask with ⟨hf, e⟩ | ⟨-, e⟩ <;> rw [e]
  · exact h.insertFrame hf cap mask
  · exact h

theorem highCheck (h : s.Inv) : s.highCheck.Inv := by
  rcases highCheck_spec s with ⟨-, e⟩ | ⟨-, e⟩ <;> rw [e]
  · exact { h.prioInsert highWaterFrame false 0 with }
  · exact h

theorem lowCheck (h : s.Inv) : s.lowCheck.Inv := by
  rcases lowCheck_spec s with ⟨-, e⟩ | ⟨-, e⟩ <;> rw [e]
  · exact { h.prioInsert lowWaterFrame false 0 with }
  · exact h

theorem setInbound (h : s.Inv) {l : List Byte} (hl : l.length ≤ s.cfg.inCap) : State.Inv { s with inb := l } :=
  { h with inbound := hl }

theorem inAppend (h : s.Inv) (d : Byte) : (s.inAppend d).Inv := by
  unfold State.inAppend
  apply highCheck
  have hk := h.params.evictK_pos
  have hc := h.params.inCap_pos
  have hi := h.inbound
  rcases evict_spec s with ⟨hf, e⟩ | ⟨hf, e⟩ <;> rw [e]
  · exact h.setInbound (by simp; omega)
  · exact h.setInbound (by simp; omega)

theorem dropInbound (h : s.Inv) (k : Nat) : (s.dropInbound k).Inv :=
  h.setInbound (by have := h.inbound; simp; omega)

theorem demote (h : s.Inv) (ho : s.timerId ≠ none) (hi : s.inFlight = true) : s.demote.Inv :=
  { h with
    cursor := by
      have := h.flight (inFlight_iff.1 hi); have := h.cursor
      simp only [demote_outCur, demote_out]; omega
    sent := Nat.le_refl _
    frame := Nat.zero_le _
    flight := fun hf => absurd hf (Nat.lt_irrefl _)
    closed := fun hc => absurd hc ho }

/-- R240: a closed core opens into a state that keeps the invariant. -/
theorem openCore (h : s.Inv) (id : TimerId) (hc : s.curCmd = none) : (s.openCore id).Inv where
  params := h.params
  inbound := Nat.zero_le _
  cursor := Nat.le_refl _
  outbound := Nat.zero_le _
  sent := Nat.le_refl _
  frame := Nat.zero_le _
  flight := fun hf => absurd hf (Nat.lt_irrefl _)
  closed := fun hn => by cases hn
  opened := fun _ => ⟨rfl, rfl, rfl⟩
  reply := by simp
  waiting := fun hn => absurd hc hn
  legal := fun c hn => by rw [openCore_curCmd, hc] at hn; cases hn

/-- R240 InitFail, R242: the core closes and the command finishes. -/
theorem closeCore_finish (h : s.Inv) (st : Status) : (s.closeCore.finish st 0 []).Inv :=
  { h with
    closed := fun _ => ⟨rfl, rfl, rfl, rfl, rfl, rfl⟩
    opened := fun ho => absurd rfl ho
    waiting := fun hc => absurd rfl hc
    legal := fun _ hc => by cases hc }

theorem filterStep (h : s.Inv) (rx : Byte) : (s.filterStep rx).Inv := by
  rcases filterStep_spec s rx with ⟨d, -, e⟩ | ⟨-, e⟩ <;> rw [e]
  · have h' : State.Inv { s with esc := (unescape rx s.esc).2 } := { h with }
    exact h'.inAppend d
  · exact { h with }

/-- R221, R222 outside a frame: the cursor passes a queued byte and the clock is armed. -/
theorem transmit_rearm (h : s.Inv) (ho : s.timerId ≠ none) (hi : s.inFlight = false) (e : Env)
    (he : e.response = s.env.response) : State.Inv { s.transmit.rearm with env := e } :=
  { h with
    cursor := by
      have := h.cursor
      simp only [rearm_outCur, transmit_outCur, rearm_out, transmit_out, State.txQueued, decide_eq_true_eq]
      by_cases hq : s.outCur < s.out.length
      · rw [if_pos hq]; exact hq
      · rw [if_neg hq]; exact this
    flight := fun hf => by
      have hf' : s.inFlight = true := inFlight_iff.2 hf
      rw [hi] at hf'; cases hf'
    closed := fun hc => absurd hc ho
    waiting := fun hc => ⟨ho, he.trans (h.waiting hc).2⟩ }

/-- R221 to R223 in a frame: the cursor and P_SENT advance together. -/
theorem transmit_priorityStep (h : s.Inv) (ho : s.timerId ≠ none) (hi : s.inFlight = true) (e : Env)
    (he : e.response = s.env.response) (rx : Byte) :
    State.Inv (State.priorityStep { s.transmit.rearm with env := e } rx) := by
  have hf := inFlight_iff.1 hi
  obtain ⟨h1, h2⟩ := h.flight hf
  have hq : s.txQueued = true := by simp only [State.txQueued, decide_eq_true_eq]; omega
  exact
  { h with
    cursor := by simp [hq]; omega
    sent := by simp; omega
    flight := fun _ => by simp [hq, h1]; exact h2
    closed := fun hc => absurd hc ho
    reply := by
      have := h.reply
      simp only [priorityStep_rpl, priorityStep_cfg, rearm_rpl, transmit_rpl, rearm_cfg, transmit_cfg]
      split <;> simpa using this
    waiting := fun hc => ⟨ho, he.trans (h.waiting hc).2⟩ }

/-- R220 to R224: a transaction of an open core keeps the invariant. Step 1 alone does not: while a frame is in
flight it moves the cursor ahead of P_SENT, and step 4 catches up. -/
theorem transaction (h : s.Inv) (ho : s.timerId ≠ none) (src : Source) : (s.transaction src).Inv := by
  have hp : (s.clearPending src).Inv := by
    cases src <;> exact { h with closed := fun hc => absurd hc ho }
  have hpo : (s.clearPending src).timerId ≠ none := by cases src <;> exact ho
  unfold State.transaction State.beginTransaction
  generalize s.clearPending src = p at hp hpo
  obtain ⟨e, he, her, -⟩ := drawPeerByte_state p.transmit
  simp only [he]
  suffices hs : (State.receive { p.transmit.rearm with env := e } p.transmit.drawPeerByte.1).Inv from { hs with }
  rcases receive_spec { p.transmit.rearm with env := e } p.transmit.drawPeerByte.1 with ⟨hi, hr⟩ | ⟨hi, hr⟩ <;>
    rw [hr]
  · exact hp.transmit_priorityStep hpo hi e her _
  · exact (hp.transmit_rearm hpo hi e her).filterStep _

end State.Inv

end Sys2Proof.Machine
end

