-- ==== Sys2Proof/Laws/PerInstr.lean ====
section
/-! SUPPORT. The family `TableRow`: the encoding of every well-formed instruction has the length its row of
spec/opcode_table.json gives and the row's fixed bits, byte by byte. -/

namespace Sys2Proof.Laws.TableRow

/-- The row's mask, its most significant byte first; the set-rate frame's row without its two bytes of padding. -/
def rowMask : Instr → List Byte
  | .init => [0xFF, 0xFF, 0xFF, 0xFF]
  | .shutdown => [0xFF, 0xFF, 0xFF, 0xFF]
  | .setrate _ => [0xFF, 0xFF, 0xFF, 0xFF]
  | .wait => [0xFF, 0xFF, 0xFF, 0xFF]
  | .rdreg _ => [0xFF, 0x00, 0xFF, 0xFF]
  | .write _ => [0xFF, 0xFF, 0x00, 0x00]
  | .writeb _ => [0xFF, 0xFF, 0x00, 0x00]
  | .flush => [0xFF, 0xFF, 0xFF, 0xFF]
  | .read _ => [0xFF, 0xFF, 0x00, 0x00]
  | .readline _ _ => [0xFF, 0x00, 0x00, 0x00]
  | .avail => [0xFF, 0xFF, 0xFF, 0xFF]
  | .unread _ => [0xFF, 0xFF, 0x00, 0x00]
  | .enqp _ _ _ => [0xFF, 0xFE, 0x00, 0x00]
  | .awaitp _ => [0xFF, 0xFF, 0x00, 0x00]
  | .rdreply _ => [0xFF, 0xFF, 0x00, 0x00]
  | .rxEscape => [0xFF]
  | .rxLiteralAfterEscape _ => [0x00]
  | .rxNoise00 => [0xFF]
  | .rxNoiseFF => [0xFF]
  | .rxLiteral _ => [0x00]
  | .txEscape00 => [0xFF, 0xFF]
  | .txEscape5C => [0xFF, 0xFF]
  | .txLiteral _ => [0x00]
  | .txFiller => [0xFF]
  | .setrateFrame _ => [0xFF, 0xFF, 0x00, 0x00, 0x00, 0x00]
  | .versionQuery => [0xFF, 0xFF, 0xFF]
  | .wmLow => [0xFF, 0xFF, 0xFF]
  | .wmHigh => [0xFF, 0xFF, 0xFF]

/-- The row's match value, its most significant byte first. -/
def rowMatch : Instr → List Byte
  | .init => [0x01, 0x00, 0x00, 0x00]
  | .shutdown => [0x02, 0x00, 0x00, 0x00]
  | .setrate _ => [0x03, 0x00, 0x00, 0x00]
  | .wait => [0x04, 0x00, 0x00, 0x00]
  | .rdreg _ => [0x05, 0x00, 0x00, 0x00]
  | .write _ => [0x10, 0x00, 0x00, 0x00]
  | .writeb _ => [0x11, 0x00, 0x00, 0x00]
  | .flush => [0x12, 0x00, 0x00, 0x00]
  | .read _ => [0x20, 0x00, 0x00, 0x00]
  | .readline _ _ => [0x21, 0x00, 0x00, 0x00]
  | .avail => [0x22, 0x00, 0x00, 0x00]
  | .unread _ => [0x23, 0x00, 0x00, 0x00]
  | .enqp _ _ _ => [0x30, 0x00, 0x00, 0x00]
  | .awaitp _ => [0x31, 0x00, 0x00, 0x00]
  | .rdreply _ => [0x32, 0x00, 0x00, 0x00]
  | .rxEscape => [0x5C]
  | .rxLiteralAfterEscape _ => [0x00]
  | .rxNoise00 => [0x00]
  | .rxNoiseFF => [0xFF]
  | .rxLiteral _ => [0x00]
  | .txEscape00 => [0x5C, 0x00]
  | .txEscape5C => [0x5C, 0x5C]
  | .txLiteral _ => [0x00]
  | .txFiller => [0x00]
  | .setrateFrame _ => [0x5C, 0x62, 0x00, 0x00, 0x00, 0x00]
  | .versionQuery => [0x5C, 0x76, 0x00]
  | .wmLow => [0x5C, 0x77, 0x00]
  | .wmHigh => [0x5C, 0x77, 0x01]

/-- The row's length in bytes (R94; R104, R108). -/
def rowLength : Instr → Nat
  | .init => 4
  | .shutdown => 4
  | .setrate _ => 8
  | .wait => 4
  | .rdreg _ => 4
  | .write data => 4 + data.length
  | .writeb data => 4 + data.length
  | .flush => 4
  | .read _ => 4
  | .readline _ _ => 4
  | .avail => 4
  | .unread data => 4 + data.length
  | .enqp _ _ frame => 8 + frame.length
  | .awaitp _ => 4
  | .rdreply _ => 4
  | .rxEscape => 1
  | .rxLiteralAfterEscape _ => 1
  | .rxNoise00 => 1
  | .rxNoiseFF => 1
  | .rxLiteral _ => 1
  | .txEscape00 => 2
  | .txEscape5C => 2
  | .txLiteral _ => 1
  | .txFiller => 1
  | .setrateFrame _ => 6
  | .versionQuery => 3
  | .wmLow => 3
  | .wmHigh => 3

/-- The encoding of `i` is one its table row admits. -/
def Statement (i : Instr) : Prop :=
  i.WellFormed → (encode i).length = rowLength i ∧ List.zipWith (fun m b => m &&& b) (rowMask i) (encode i) = rowMatch i

/-- A byte the row's mask leaves free does not count. -/
theorem free1 (a x c d : Byte) : [a, 0x00 &&& x, c, d] = [a, 0x00, c, d] := by simp

/-- Two bytes the row's mask leaves free do not count. -/
theorem free2 (a b x y : Byte) : [a, b, 0x00 &&& x, 0x00 &&& y] = [a, b, 0x00, 0x00] := by
  simp

/-- Three bytes the row's mask leaves free do not count. -/
theorem free3 (a x y z : Byte) : [a, 0x00 &&& x, 0x00 &&& y, 0x00 &&& z] = [a, 0x00, 0x00, 0x00] := by
  simp

/-- Four bytes the row's mask leaves free do not count. -/
theorem free4 (w x y z : Byte) :
    [0x00 &&& w, 0x00 &&& x, 0x00 &&& y, 0x00 &&& z] = ([0x00, 0x00, 0x00, 0x00] : List Byte) := by
  simp

/-- R93: the length of a header with a payload behind it. -/
theorem four (data : List Byte) : data.length + 1 + 1 + 1 + 1 = 4 + data.length := by omega

/-- R92, R93: the length of a header with an extension word and a payload behind it. -/
theorem eight (data : List Byte) : data.length + 1 + 1 + 1 + 1 + 1 + 1 + 1 + 1 = 8 + data.length := by omega

theorem init : Statement .init := fun _ => ⟨rfl, rfl⟩
theorem shutdown : Statement .shutdown := fun _ => ⟨rfl, rfl⟩
theorem setrate (rate : Word32) : Statement (.setrate rate) := fun _ => ⟨rfl, rfl⟩
theorem wait : Statement .wait := fun _ => ⟨rfl, rfl⟩
theorem rdreg (reg : Byte) : Statement (.rdreg reg) := fun _ => ⟨rfl, free1 0x05 reg 0x00 0x00⟩
theorem write (data : List Byte) : Statement (.write data) := fun _ => ⟨four data, free2 0x10 0x00 _ _⟩
theorem writeb (data : List Byte) : Statement (.writeb data) := fun _ => ⟨four data, free2 0x11 0x00 _ _⟩
theorem flush : Statement .flush := fun _ => ⟨rfl, rfl⟩
theorem read (n : Word16) : Statement (.read n) := fun _ => ⟨rfl, free2 0x20 0x00 _ _⟩
theorem readline (delim : Byte) (n : Word16) : Statement (.readline delim n) := fun _ => ⟨rfl, free3 0x21 delim _ _⟩
theorem avail : Statement .avail := fun _ => ⟨rfl, rfl⟩
theorem unread (data : List Byte) : Statement (.unread data) := fun _ => ⟨four data, free2 0x23 0x00 _ _⟩
theorem enqp : (cap : Bool) → (mask : Word32) → (frame : List Byte) → Statement (.enqp cap mask frame)
  | true, _, frame => fun _ => ⟨eight frame, free2 0x30 0x00 _ _⟩
  | false, _, frame => fun _ => ⟨eight frame, free2 0x30 0x00 _ _⟩
theorem awaitp (t : Word16) : Statement (.awaitp t) := fun _ => ⟨rfl, free2 0x31 0x00 _ _⟩
theorem rdreply (n : Word16) : Statement (.rdreply n) := fun _ => ⟨rfl, free2 0x32 0x00 _ _⟩
theorem rxEscape : Statement .rxEscape := fun _ => ⟨rfl, rfl⟩
theorem rxLiteralAfterEscape (d : Byte) : Statement (.rxLiteralAfterEscape d) :=
  fun _ => ⟨rfl, congrArg (fun x => [x]) BitVec.zero_and⟩
theorem rxNoise00 : Statement .rxNoise00 := fun _ => ⟨rfl, rfl⟩
theorem rxNoiseFF : Statement .rxNoiseFF := fun _ => ⟨rfl, rfl⟩
theorem rxLiteral (d : Byte) : Statement (.rxLiteral d) := fun _ => ⟨rfl, congrArg (fun x => [x]) BitVec.zero_and⟩
theorem txEscape00 : Statement .txEscape00 := fun _ => ⟨rfl, rfl⟩
theorem txEscape5C : Statement .txEscape5C := fun _ => ⟨rfl, rfl⟩
theorem txLiteral (b : Byte) : Statement (.txLiteral b) := fun _ => ⟨rfl, congrArg (fun x => [x]) BitVec.zero_and⟩
theorem txFiller : Statement .txFiller := fun _ => ⟨rfl, rfl⟩
theorem setrateFrame (r : Word32) : Statement (.setrateFrame r) :=
  fun _ => ⟨rfl, congrArg (fun l => 0x5C :: 0x62 :: l) (free4 _ _ _ _)⟩
theorem versionQuery : Statement .versionQuery := fun _ => ⟨rfl, rfl⟩
theorem wmLow : Statement .wmLow := fun _ => ⟨rfl, rfl⟩
theorem wmHigh : Statement .wmHigh := fun _ => ⟨rfl, rfl⟩

end Sys2Proof.Laws.TableRow
end

