-- ==== Sys2Proof/Laws/Step.lean ====
section
/-! SUPPORT. What a step can do, said once: the received rows are one operation, each agent's turn has a closed
form, and `step_spec` lists every way a step can go. -/

namespace Sys2Proof.Machine

/-- R130, R220: the received rows run the routing of the byte they stand for, in either escape state. -/
theorem exec_decodeRx (esc : Bool) (b : Byte) (s : State) : exec (decodeRx esc b) s = .next (s.receive b) := by
  unfold decodeRx
  split
  · rfl
  · split
    · subst_vars; rfl
    · split
      · subst_vars; rfl
      · split
        · subst_vars; rfl
        · rfl

/-- R220: the Exchange unit's turn is the transaction, or passes. -/
theorem exchangeTurn_spec (src : Source) (s : State) :
    exchangeTurn src s = .next (if s.exchangeDue src then s.transaction src else s) := by
  unfold exchangeTurn
  rw [exec_decodeRx]
  split <;> rfl

/-- R19, R84: the Command unit's turn with a command waiting. -/
theorem commandTurn_waiting {s : State} {c : CurCmd} (h : s.curCmd = some c) :
    commandTurn s = .next (s.resumeCommand c) := by simp [commandTurn, h]

/-- R84, R90, R98: the idle Command unit's turn: a command runs, an illegal one is answered, or the turn passes. -/
theorem commandTurn_idle {s : State} (h : s.curCmd = none) :
    (∃ i rest, s.env.response = [] ∧ decode s.env.hostBytes = .instr i rest ∧
      commandTurn s = exec i (s.withHostBytes rest)) ∨
    (∃ why rest, s.env.response = [] ∧ decode s.env.hostBytes = .bad why rest ∧
      commandTurn s = .next ((s.withHostBytes rest).finish .badCommand 0 [])) ∨
    ((s.env.response ≠ [] ∨ decode s.env.hostBytes = .incomplete) ∧ commandTurn s = .next s) := by
  rcases fetchCommand_spec s with ⟨i, rest, hr, hd, hf⟩ | ⟨why, rest, hr, hd, hf⟩ | ⟨hd, hf⟩
  · exact .inl ⟨i, rest, hr, hd, by simp [commandTurn, h, hf]⟩
  · exact .inr (.inl ⟨why, rest, hr, hd, by simp [commandTurn, h, hf]⟩)
  · exact .inr (.inr ⟨hd, by simp [commandTurn, h, hf]⟩)

/-- Every way a step can go, by the turn it draws; `s.drawTurn.2` is `s` but for the environment's lists. -/
theorem step_spec {s t : State} (h : step s = .next t) :
    (s.drawTurn.1 = .hostRead ∧ t = s.drawTurn.2.hostReadEvent) ∨
    (s.drawTurn.1 = .timer ∧ t = s.drawTurn.2.timerEvent) ∨
    (s.drawTurn.1 = .linkChange ∧ t = s.drawTurn.2.linkChangeEvent) ∨
    (s.drawTurn.1 = .linkReset ∧ t = s.drawTurn.2) ∨
    (s.drawTurn.1 = .pulse ∧ t = s.drawTurn.2.pulseEvent) ∨
    (∃ src, s.drawTurn.1 = .exchange src ∧
      ((s.exchangeDue src = true ∧ t = s.drawTurn.2.transaction src) ∨
        (s.exchangeDue src = false ∧ t = s.drawTurn.2))) ∨
    (∃ c, s.drawTurn.1 = .command ∧ s.curCmd = some c ∧ t = s.drawTurn.2.resumeCommand c) ∨
    (s.drawTurn.1 = .command ∧ s.curCmd = none ∧
      ((∃ i rest, s.env.response = [] ∧ decode s.env.hostBytes = .instr i rest ∧
          exec i (s.drawTurn.2.withHostBytes rest) = .next t) ∨
        (∃ why rest, s.env.response = [] ∧ decode s.env.hostBytes = .bad why rest ∧
          t = (s.drawTurn.2.withHostBytes rest).finish .badCommand 0 []) ∨
        ((s.env.response ≠ [] ∨ decode s.env.hostBytes = .incomplete) ∧ t = s.drawTurn.2))) := by
  unfold step at h
  obtain ⟨e, he, her, heh, -⟩ := drawTurn_state s
  rcases ht : s.drawTurn.1 with _ | _ | src | _ | _ | _ | _ <;> simp only [ht, takeTurn] at h
  case command =>
    have hc : s.drawTurn.2.curCmd = s.curCmd := by rw [he]
    have hr : s.drawTurn.2.env.response = s.env.response := by rw [he]; exact her
    have hb : s.drawTurn.2.env.hostBytes = s.env.hostBytes := by rw [he]; exact heh
    cases hw : s.curCmd with
    | some c =>
      rw [commandTurn_waiting (hc.trans hw)] at h
      injection h with h; simp [h]
    | none =>
      rcases commandTurn_idle (hc.trans hw) with ⟨i, rest, h1, h2, h3⟩ | ⟨why, rest, h1, h2, h3⟩ | ⟨h1, h3⟩ <;>
        rw [h3] at h <;> rw [hr] at h1
      · rw [hb] at h2; simp [h1, h2, h]
      · rw [hb] at h2; injection h with h; simp [h1, h2, ← h]
      · rw [hb] at h1; injection h with h; simp [h1, h]
  case exchange =>
    have hd : s.drawTurn.2.exchangeDue src = s.exchangeDue src := by rw [he]; cases src <;> rfl
    rw [exchangeTurn_spec, hd] at h
    injection h with h
    cases hq : s.exchangeDue src <;> simp [hq] at h <;> simp [h, hq]
  all_goals injection h with h; simp [h]

end Sys2Proof.Machine
end

