-- ==== Sys2Proof/Tests/Slice0.lean ====
section
/-! SUPPORT. Tests: the checks of WellFormed, a written-out word for every constructor, at most two one-step tests
per instruction with the results of 95_test_vectors.md, and for every obligation with hypotheses a witness that
meets them, each clause of its own. -/

namespace Sys2Proof.Tests

open Sys2Proof Sys2Proof.Machine

/-! ### Small states -/

/-- Timer 1 of 95_test_vectors.md section 1. -/
def timer1 : TimerId := ⟨1, by decide⟩

/-- An open core with empty buffers and no frame. -/
def opened : State :=
  { State.reset with
    timerId := some timer1, linkEn := true, clkArmed := true, ieClk := true, ieLnk := true
    rate := 1003, divider := 33, version := 0x23 }

/-- S1, the end state of program P1. -/
def s1 : State :=
  { opened with
    out := [0x5C, 0x76, 0x00], outCur := 3, pLen := 3, pSent := 3, pCap := true, tickSeen := true
    rpl := [0x5C, 0x76, 0x23] ++ List.replicate 17 0x00 }

/-- P-I6: a frame in flight at offset 1. -/
def flying : State :=
  { opened with
    out := [0x5C, 0x76, 0x00, 0x41], outCur := 1, pLen := 3, pSent := 1, pCap := true
    rpl := [0x5C, 0x76, 0x00] ++ List.replicate 17 0x00 }

/-- `s` whose next turn is `t`. -/
def atTurn (s : State) (t : Turn) : State := { s with env := { s.env with turns := [t] } }

/-- `s` with the host's bytes on the command port and the Command unit's turn next. -/
def sending (s : State) (bytes : List Byte) : State :=
  { s with env := { s.env with turns := [.command], hostBytes := bytes } }

/-- `s` in which a pending clock is served next, the peer returning `rx`. -/
def receiving (s : State) (rx : Byte) : State :=
  { s with clkPend := true, env := { s.env with turns := [.exchange .clk], peerBytes := [rx] } }

/-- The outcome is a next state with the property. -/
def nextIs (o : Host.Outcome State Fault Refusal) (p : State → Bool) : Bool :=
  match o with
  | .next t => p t
  | .fault _ => false
  | .refused _ => false

/-- The response bytes on the response port (R100). -/
def answers (o : Host.Outcome State Fault Refusal) (r : List Byte) : Bool := nextIs o (fun t => t.env.response == r)

/-! ### WellFormed refuses an ill-formed term of each check -/

theorem replicate_fits (n : Nat) : payloadFits (List.replicate n 0) = decide (n ≤ 65535) := by simp [payloadFits]
theorem test_wf_write : ¬ Instr.WellFormed (.write (List.replicate 65536 0)) :=
  fun h => absurd ((replicate_fits 65536).symm.trans h) (by decide)
theorem test_wf_writeb : ¬ Instr.WellFormed (.writeb (List.replicate 65536 0)) :=
  fun h => absurd ((replicate_fits 65536).symm.trans h) (by decide)
theorem test_wf_unread : ¬ Instr.WellFormed (.unread (List.replicate 65536 0)) :=
  fun h => absurd ((replicate_fits 65536).symm.trans h) (by decide)
theorem test_wf_enqp : ¬ Instr.WellFormed (.enqp true 0 (List.replicate 65536 0)) :=
  fun h => absurd ((replicate_fits 65536).symm.trans h) (by decide)
theorem test_wf_longest : Instr.WellFormed (.write (List.replicate 65535 0)) :=
  (replicate_fits 65535).trans (by decide)
theorem test_wf_rxLiteral :
    ¬ Instr.WellFormed (.rxLiteral 0x00) ∧ ¬ Instr.WellFormed (.rxLiteral 0x5C) ∧ ¬ Instr.WellFormed (.rxLiteral 0xFF) := by
  decide
theorem test_wf_txLiteral : ¬ Instr.WellFormed (.txLiteral 0x00) ∧ ¬ Instr.WellFormed (.txLiteral 0x5C) := by decide

/-! ### Written-out words (R96, R97, R103 to R105, R108, R109) -/

theorem test_decode_init : decode [0x01, 0x00, 0x00, 0x00] = .instr .init [] := by decide
theorem test_decode_shutdown : decode [0x02, 0x00, 0x00, 0x00] = .instr .shutdown [] := by decide
theorem test_decode_setrate : decode [0x03, 0x00, 0x00, 0x00, 0x00, 0x00, 0x03, 0xE8] = .instr (.setrate 1000) [] := by
  decide
theorem test_decode_wait : decode [0x04, 0x00, 0x00, 0x00] = .instr .wait [] := by decide
theorem test_decode_rdreg : decode [0x05, 0x0B, 0x00, 0x00] = .instr (.rdreg 0x0B) [] := by decide
theorem test_decode_write :
    decode [0x10, 0x00, 0x00, 0x03, 0x41, 0x00, 0x5C] = .instr (.write [0x41, 0x00, 0x5C]) [] := by decide
theorem test_decode_writeb : decode [0x11, 0x00, 0x00, 0x01, 0x00] = .instr (.writeb [0x00]) [] := by decide
theorem test_decode_flush : decode [0x12, 0x00, 0x00, 0x00] = .instr .flush [] := by decide
theorem test_decode_read : decode [0x20, 0x00, 0x01, 0x10] = .instr (.read 0x0110) [] := by decide
theorem test_decode_readline : decode [0x21, 0x0A, 0x00, 0x10] = .instr (.readline 0x0A 16) [] := by decide
theorem test_decode_avail : decode [0x22, 0x00, 0x00, 0x00] = .instr .avail [] := by decide
theorem test_decode_unread : decode [0x23, 0x00, 0x00, 0x02, 0x48, 0x49, 0x01] = .instr (.unread [0x48, 0x49]) [0x01] := by
  decide
theorem test_decode_enqp :
    decode [0x30, 0x01, 0x00, 0x03, 0x00, 0x00, 0x00, 0x02, 0x5C, 0x76, 0x00] =
      .instr (.enqp true 2 [0x5C, 0x76, 0x00]) [] := by decide
theorem test_decode_awaitp : decode [0x31, 0x00, 0x00, 0x02] = .instr (.awaitp 2) [] := by decide
theorem test_decode_rdreply : decode [0x32, 0x00, 0x00, 0x03] = .instr (.rdreply 3) [] := by decide
theorem test_decode_rxEscape : decodeRx false 0x5C = .rxEscape := by decide
theorem test_decode_rxLiteralAfterEscape : decodeRx true 0x5C = .rxLiteralAfterEscape 0x5C := by decide
theorem test_decode_rxNoise00 : decodeRx false 0x00 = .rxNoise00 := by decide
theorem test_decode_rxNoiseFF : decodeRx false 0xFF = .rxNoiseFF := by decide
theorem test_decode_rxLiteral : decodeRx false 0x41 = .rxLiteral 0x41 := by decide
theorem test_decode_txEscape00 : decodeTx [0x5C, 0x00] = some (.txEscape00, []) := by decide
theorem test_decode_txEscape5C : decodeTx [0x5C, 0x5C] = some (.txEscape5C, []) := by decide
theorem test_decode_txLiteral : decodeTx [0xFF] = some (.txLiteral 0xFF, []) := by decide
theorem test_decode_txFiller : decodeTx [0x00] = some (.txFiller, []) := by decide
theorem test_decode_setrateFrame : decodeFrame [0x5C, 0x62, 0x00, 0x00, 0x03, 0xE8] = some (.setrateFrame 1000) := by
  decide
theorem test_decode_versionQuery : decodeFrame [0x5C, 0x76, 0x00] = some .versionQuery := by decide
theorem test_decode_wmLow : decodeFrame [0x5C, 0x77, 0x00] = some .wmLow := by decide
theorem test_decode_wmHigh : decodeFrame [0x5C, 0x77, 0x01] = some .wmHigh := by decide
/-- E1, E4, E5, E6: undefined opcodes and reserved fields; a refused command is consumed whole (R98). -/
theorem test_decode_rejects :
    decode [0x00, 0x00, 0x00, 0x00, 0x22] = .bad (.undefinedOpcode 0x00) [0x22] ∧
    decode [0x20, 0x01, 0x00, 0x02] = .bad (.reservedField .read) [] ∧
    decode [0x30, 0x02, 0x00, 0x00, 0x00, 0x00, 0x00, 0x00] = .bad (.reservedField .enqp) [] ∧
    decode [0x05, 0x00, 0x00, 0x01] = .bad (.reservedField .rdreg) [] := by decide
theorem test_tableWord : decodeTableWord 32 0x31000002 = some (.awaitp 2) ∧ decodeTableWord 16 0x5C5C = some .txEscape5C ∧
    decodeTableWord 24 0x5C7701 = some .wmHigh ∧ decodeTableWord 64 0x5C620000_03E80000 = some (.setrateFrame 1000) := by
  decide

/-- Log entry 10: a placed word is what the next step runs. -/
theorem test_withFetchWord :
    answers (step (State.reset.withFetchWord 32 0x20000004)) [0x08, 0x00, 0x00, 0x00, 0x00, 0x00, 0x00, 0x00] = true ∧
    nextIs (step (State.reset.withFetchWord 8 0x41)) (fun t => t.inb == [0x41]) = true ∧
    nextIs (step (State.reset.withFetchWord 16 0x5C00)) (fun t => t.out == [0x5C, 0x00]) = true ∧
    nextIs (step (State.reset.withFetchWord 64 0x5C620000_03E80000))
      (fun t => t.out == [0x5C, 0x62, 0x00, 0x00, 0x03, 0xE8]) = true := by decide

/-! ### One step of each instruction (95_test_vectors.md section 3) -/

/-- P1 steps 1: round trip 1 is queued and the core is open. -/
theorem test_init : nextIs (exec .init { State.reset with env := { Env.empty with probes := [some timer1] } })
    (fun t => t.out == [0x5C, 0x76, 0x00] && t.timerId == some timer1 && t.rate == 1003) := by decide
/-- C11 -/
theorem test_shutdown : nextIs (exec .shutdown s1)
    (fun t => t.statusWord.extractLsb' 0 7 == 0 && t.out == [0x5C, 0x76, 0x00]) := by decide
/-- E9 -/
theorem test_setrate : answers (exec (.setrate 1000) opened) [0x00, 0x00, 0x00, 0x00, 0x00, 0x00, 0x03, 0xEB] := by decide
/-- C9 -/
theorem test_setrate_zero : answers (exec (.setrate 0) opened) [0x0A, 0x00, 0x00, 0x00, 0x00, 0x00, 0x00, 0x00] := by decide
/-- C15, R245 -/
theorem test_wait : nextIs (exec .wait s1) (fun t => t.curCmd == some .wait && t.tickSeen == false) := by decide
/-- C13: STATUS in S1 -/
theorem test_rdreg : answers (exec (.rdreg 0x00) s1) [0x00, 0x00, 0x00, 0x00, 0x00, 0x00, 0x0C, 0x1F] := by decide
/-- C14 -/
theorem test_rdreg_reserved : answers (exec (.rdreg 0x12) s1) [0x0A, 0x00, 0x00, 0x00, 0x00, 0x00, 0x00, 0x00] := by decide
/-- O2, P2 step 1 -/
theorem test_write : nextIs (exec (.write [0x41, 0x00, 0x5C]) s1) (fun t => t.out == [0x41, 0x5C, 0x00, 0x5C, 0x5C] &&
    t.env.response == [0x00, 0x00, 0x00, 0x00, 0x00, 0x00, 0x00, 0x03]) := by decide
/-- O3 -/
theorem test_write_short : nextIs (exec (.write [0x41, 0x00, 0x42]) { opened with out := List.replicate 14 0x61 })
    (fun t => t.out.length == 15 && t.env.response == [0x01, 0x00, 0x00, 0x00, 0x00, 0x00, 0x00, 0x01]) := by decide
/-- P5 step 1 -/
theorem test_writeb_waits : nextIs (exec (.writeb [0x00]) { s1 with out := List.replicate 16 0x41, outCur := 0 })
    (fun t => t.curCmd == some (.writeb [0x00] 0) && t.tickSeen == false) := by decide
/-- P5 step 5 -/
theorem test_writeb_retry : nextIs (step { atTurn s1 .command with
      out := List.replicate 15 0x41, outCur := 1, curCmd := some (.writeb [0x00] 0) })
    (fun t => t.out == List.replicate 14 0x41 ++ [0x5C, 0x00] &&
      t.env.response == [0x00, 0x00, 0x00, 0x00, 0x00, 0x00, 0x00, 0x01]) := by decide
/-- O10 -/
theorem test_flush : answers (exec .flush s1) [0x00, 0x00, 0x00, 0x00, 0x00, 0x00, 0x00, 0x00] := by decide
/-- O9 -/
theorem test_flush_waits : nextIs (exec .flush { opened with out := [0x41, 0x42] })
    (fun t => t.curCmd == some .flush && t.env.response == []) := by decide
/-- E8, through the port -/
theorem test_read : nextIs (step { sending opened [0x20, 0x00, 0x00, 0x10] with inb := [0x48, 0x00] })
    (fun t => t.inb == [] && t.env.response == [0x00, 0x00, 0x00, 0x02, 0x00, 0x00, 0x00, 0x00, 0x48, 0x00]) := by decide
/-- I5 -/
theorem test_read_lowWater : nextIs (exec (.read 1) { opened with inb := List.replicate 5 0x61, wmLatch := true })
    (fun t => t.out == [0x5C, 0x77, 0x00] && t.wmLatch == false) := by decide
/-- I8 -/
theorem test_readline : nextIs (exec (.readline 0x0A 16) { opened with inb := [0x48, 0x49, 0x0A, 0x4A] })
    (fun t => t.inb == [0x4A] && t.env.response ==
      [0x00, 0x00, 0x00, 0x03, 0x00, 0x00, 0x00, 0x00, 0x48, 0x49, 0x0A]) := by decide
/-- I9 -/
theorem test_readline_notFound : nextIs (exec (.readline 0x0A 2) { opened with inb := [0x48, 0x49, 0x0A, 0x4A] })
    (fun t => t.inb.length == 4 && t.env.response == [0x05, 0x00, 0x00, 0x00, 0x00, 0x00, 0x00, 0x00]) := by decide
/-- I13 -/
theorem test_avail : answers (exec .avail { opened with inb := [0x48, 0x00] })
    [0x00, 0x00, 0x00, 0x00, 0x00, 0x00, 0x00, 0x02] := by decide
/-- I14 -/
theorem test_unread : nextIs (exec (.unread [0x48, 0x49]) { opened with inb := [0x4A] })
    (fun t => t.inb == [0x48, 0x49, 0x4A]) := by decide
/-- I15 -/
theorem test_unread_rejected : answers (exec (.unread [0x48, 0x49]) { opened with inb := List.replicate 19 0x61 })
    [0x04, 0x00, 0x00, 0x00, 0x00, 0x00, 0x00, 0x00] := by decide
/-- P-I3 -/
theorem test_enqp : nextIs (exec (.enqp false 0 [0x5C, 0x58, 0x01, 0x02, 0x03])
      { opened with out := List.replicate 14 0x41 ++ [0x5C, 0x00] })
    (fun t => t.out == [0x5C, 0x58, 0x01, 0x02, 0x03] ++ List.replicate 14 0x41 ++ [0x5C]) := by decide
/-- P-I4 -/
theorem test_enqp_rejected : answers (exec (.enqp true 0 (List.replicate 21 0x00)) opened)
    [0x02, 0x00, 0x00, 0x00, 0x00, 0x00, 0x00, 0x00] := by decide
/-- P-A1 -/
theorem test_awaitp : answers (exec (.awaitp 3) s1) [0x00, 0x00, 0x00, 0x00, 0x00, 0x00, 0x00, 0x00] := by decide
/-- P-T1, P3 step 7 -/
theorem test_awaitp_timeout : nextIs (step { atTurn flying .command with
      outCur := 2, pSent := 2, clkArmed := false, tuCount := 2, curCmd := some (.awaitp 2) })
    (fun t => t.outCur == 2 && t.pLen == 0 && t.clkArmed && t.env.response ==
      [0x03, 0x00, 0x00, 0x00, 0x00, 0x00, 0x00, 0x00]) := by decide
/-- P-C1 -/
theorem test_rdreply : answers (exec (.rdreply 3) s1)
    [0x00, 0x00, 0x00, 0x03, 0x00, 0x00, 0x00, 0x00, 0x5C, 0x76, 0x23] := by decide
/-- F2, P2 step 5 -/
theorem test_rxEscape : nextIs (step (receiving s1 0x5C)) (fun t => t.esc && t.inb == []) := by decide
/-- F3 -/
theorem test_rxLiteralAfterEscape : nextIs (exec (.rxLiteralAfterEscape 0x5C) { s1 with esc := true })
    (fun t => t.inb == [0x5C] && t.esc == false) := by decide
/-- F4 -/
theorem test_rxNoise00 : nextIs (exec .rxNoise00 s1) (fun t => t.inb == [] && t.esc == false) := by decide
/-- X3: in a frame the byte is dropped and counted. -/
theorem test_rxNoise00_inFrame : nextIs (exec .rxNoise00 flying) (fun t => t.inb == [] && t.pSent == 2) := by decide
/-- F4 -/
theorem test_rxNoiseFF : nextIs (exec .rxNoiseFF s1) (fun t => t.inb == []) := by decide
/-- X1 -/
theorem test_rxLiteral : nextIs (step (receiving s1 0x48))
    (fun t => t.inb == [0x48] && t.env.wire == [0x00] && t.clkPend == false) := by decide
/-- X5 -/
theorem test_rxLiteral_highWater : nextIs (step { receiving opened 0x61 with
      inb := List.replicate 15 0x61, out := [0x41, 0x42] })
    (fun t => t.out == [0x5C, 0x77, 0x01, 0x42] && t.outCur == 0 && t.wmLatch) := by decide
/-- F6 -/
theorem test_txEscape00 : nextIs (exec .txEscape00 opened) (fun t => t.out == [0x5C, 0x00]) := by decide
/-- F6 -/
theorem test_txEscape5C : nextIs (exec .txEscape5C opened) (fun t => t.out == [0x5C, 0x5C]) := by decide
/-- R172: a pair that would not fit is not appended at all. -/
theorem test_txEscape00_full : nextIs (exec .txEscape00 { opened with out := List.replicate 15 0x41 })
    (fun t => t.out.length == 15) := by decide
/-- F6 -/
theorem test_txLiteral : nextIs (exec (.txLiteral 0xFF) opened) (fun t => t.out == [0xFF]) := by decide
/-- X1 -/
theorem test_txFiller : nextIs (exec .txFiller s1) (fun t => t.env.wire == [0x00] && t.outCur == 3) := by decide
/-- X2 -/
theorem test_txFiller_queued : nextIs (exec .txFiller { opened with out := [0x41] })
    (fun t => t.env.wire == [0x41] && t.outCur == 1) := by decide
/-- P-I2 -/
theorem test_setrateFrame : nextIs (exec (.setrateFrame 1000) { opened with out := List.replicate 16 0x41 })
    (fun t => t.out == [0x5C, 0x62, 0x00, 0x00, 0x03, 0xE8] ++ List.replicate 14 0x41) := by decide
/-- P-I1 -/
theorem test_versionQuery : nextIs (exec .versionQuery { opened with out := [0x41, 0x42, 0x43], outCur := 1 })
    (fun t => t.out == [0x5C, 0x76, 0x00, 0x42, 0x43] && t.pCap && t.rpl.take 3 == [0x5C, 0x76, 0x00]) := by decide
/-- R111 -/
theorem test_wmLow : nextIs (exec .wmLow { opened with out := [0x41] }) (fun t => t.out == [0x5C, 0x77, 0x00, 0x41]) := by
  decide
/-- P-I6 -/
theorem test_wmHigh : nextIs (exec .wmHigh flying)
    (fun t => t.out == [0x5C, 0x77, 0x01, 0x76, 0x00, 0x41] && t.pSent == 0 && t.pCap == false) := by decide
/-- F7 -/
theorem test_unescape_stream :
    unescapeStream false [0x00, 0x48, 0x5C, 0x00, 0xFF, 0x5C, 0x5C, 0x49, 0xFF] = ([0x48, 0x00, 0x5C, 0x49], false) := by
  decide
/-- C5, P6: the budget is spent, the core closes, and only P_CAP and TICK_SEEN are left of STATUS. -/
theorem test_init_fails : nextIs (step { atTurn s1 .command with
      rpl := [0x5C, 0x76, 0xFF] ++ List.replicate 17 0x00, curCmd := some (.init 3) })
    (fun t => t.statusWord == 0x00000C00 && t.env.response == [0x07, 0x00, 0x00, 0x00, 0x00, 0x00, 0x00, 0x00]) := by decide
/-- P-M1: mask bit 0 stops the clock after the frame's last byte. -/
theorem test_suspend : nextIs (step { receiving flying 0x33 with outCur := 2, pSent := 2, pMask := 1 })
    (fun t => t.clkArmed == false && t.pSent == 3 && t.rpl.take 3 == [0x5C, 0x76, 0x33]) := by decide

/-! ### Witnesses: states and operands that meet the hypotheses of each obligation, clause by clause -/

/-- A configuration of R8's constraints. -/
theorem testParams_valid : Config.testParams.Valid := by constructor <;> decide

/-- The small open state has the invariant. -/
theorem opened_invariant : opened.Inv where
  params := testParams_valid
  inbound := by decide
  cursor := by decide
  outbound := by decide
  sent := by decide
  frame := by decide
  flight := by decide
  closed := by decide
  opened := by decide
  reply := by decide
  waiting := fun h => absurd rfl h
  legal := fun _ h => nomatch h

/-- And so in any environment: no command is waiting. -/
theorem opened_inv (e : Env) : State.Inv { opened with env := e } :=
  { opened_invariant with waiting := fun h => absurd rfl h }

theorem witness_CommandDecodeEncode :
    (Instr.enqp true 2 [0x5C, 0x76, 0x00]).isCommand = true ∧ (Instr.enqp true 2 [0x5C, 0x76, 0x00]).WellFormed := by decide
theorem witness_DecodedBytesAreTheEncoding :
    decode [0x21, 0x0A, 0xFF, 0xFF, 0x22] = .instr (.readline 0x0A 0xFFFF) [0x22] := by decide
theorem witness_WireRowsDecodeEncode : (Instr.rxLiteral 0x01).WellFormed ∧ (Instr.rxLiteral 0xFE).WellFormed ∧
    (Instr.txLiteral 0x01).WellFormed ∧ (Instr.txLiteral 0xFF).WellFormed ∧
    decodeTx [0x5C, 0x5C, 0x00] = some (.txEscape5C, [0x00]) ∧ decodeFrame [0x5C, 0x77, 0x01] = some .wmHigh := by decide
/-- An undefined opcode with nothing behind it, and a nonzero reserved field with its whole body. -/
theorem witness_IllegalCommandsAreAnswered :
    (sending opened [0x33, 0x00, 0xFF, 0xFF, 0x22]).drawTurn.1 = .command ∧ (sending opened []).curCmd = none ∧
    (sending opened []).env.response = [] ∧ Op.ofByte 0x33 = none ∧ Op.ofByte 0x30 = some .enqp ∧
    ([0x00, 0x00, 0x00, 0x00, 0x5C] : List Byte).length = Op.enqp.format.bodyLength ((0x00 : Byte) ++ (0x01 : Byte)) ∧
    Op.enqp.format.reservedClear 0x02 ((0x00 : Byte) ++ (0x01 : Byte)) = false ∧
    (sending State.reset [0x30, 0x02, 0x00, 0x01, 0x00, 0x00, 0x00, 0x00, 0x5C]).env.hostBytes =
      0x30 :: 0x02 :: 0x00 :: 0x01 :: ([0x00, 0x00, 0x00, 0x00, 0x5C] ++ []) := by decide
theorem witness_StepRunsTheDecodedCommand :
    (sending opened [0x22, 0x00, 0x00, 0x00, 0x01]).drawTurn.1 = .command ∧ (sending opened []).curCmd = none ∧
    (sending opened []).env.response = [] ∧
    decode (sending opened [0x22, 0x00, 0x00, 0x00, 0x01]).env.hostBytes = .instr .avail [0x01] := by decide
theorem witness_StepRunsTheReceivedRow :
    (receiving opened 0x48).drawTurn.1 = .exchange .clk ∧ (receiving opened 0x48).exchangeDue .clk = true := by decide
/-- Each of the five commands waiting: the time-out one short of its bound, and no time-out at all. -/
theorem witness_WaitingCommandHoldsStill :
    (atTurn opened .command).drawTurn.1 = .command ∧ (atTurn opened .command).tickSeen = false ∧
    State.outCur { opened with out := [0x41] } ≠ (State.out { opened with out := [0x41] }).length ∧
    flying.pSent < flying.pLen ∧ (State.tuCount { flying with tuCount := 4 }).toNat < 5 ∧
    flying.cfg.initTimeout = 0 := by decide
/-- A response unread; no whole command; a source not pending; a closed core; a clock unarmed; a source disabled. -/
theorem witness_DisabledAgentsPassTheirTurn :
    (atTurn opened .command).drawTurn.1 = .command ∧ (atTurn opened .command).curCmd = none ∧
    (State.env (opened.finish .ok 0 [])).response ≠ [] ∧
    decode (sending opened [0x10, 0x00, 0x00, 0x02, 0x41]).env.hostBytes = .incomplete ∧
    (atTurn opened (.exchange .lnk)).drawTurn.1 = .exchange .lnk ∧ opened.pending .lnk = false ∧
    State.reset.timerId = none ∧ (atTurn opened .timer).drawTurn.1 = .timer ∧
    State.clkArmed { opened with clkArmed := false } = false ∧ State.reset.ieClk = false ∧
    (atTurn opened .linkChange).drawTurn.1 = .linkChange ∧ State.reset.ieLnk = false ∧
    (atTurn opened .linkReset).drawTurn.1 = .linkReset := by decide
theorem witness_EventsTakeEffect :
    (atTurn opened .timer).drawTurn.1 = .timer ∧ opened.timerId ≠ none ∧ opened.clkArmed = true ∧ opened.ieClk = true ∧
    (atTurn opened .linkChange).drawTurn.1 = .linkChange ∧ opened.ieLnk = true ∧
    State.lnkPend { opened with lnkPend := true } = true ∧ (atTurn opened .hostRead).drawTurn.1 = .hostRead := by decide
/-- The count below its bound, and at it. -/
theorem witness_PulseCountsSaturating : (atTurn opened .pulse).drawTurn.1 = .pulse ∧
    nextIs (step { atTurn opened .pulse with tuCount := 65534 }) (fun t => t.tuCount == 65535) = true ∧
    nextIs (step { atTurn opened .pulse with tuCount := 65535 }) (fun t => t.tuCount == 65535) = true := by decide
theorem witness_InvariantKeptByStep : State.Inv (atTurn opened .timer) ∧
    step (atTurn opened .timer) = .next { opened with clkArmed := false, clkPend := true } :=
  ⟨opened_inv _, rfl⟩
theorem witness_InvariantAtReset : Config.testParams.Valid := testParams_valid
/-- An open state that a run from reset reaches. -/
theorem witness_ReachableStatesAreWellKept : ∃ s : State, Reachable s ∧ s.timerId = some timer1 := by
  refine ⟨_, .step (sending State.reset [0x01, 0x00, 0x00, 0x00]
    |> fun s => { s with env := { s.env with probes := [some timer1] } }) _ (.reset Config.testParams _ testParams_valid) rfl, ?_⟩
  rfl
theorem witness_ParametersAreFixed :
    step (atTurn opened .timer) = .next { opened with clkArmed := false, clkPend := true } := rfl
/-- A closed core that a host's INIT is on its way to, the probe to find timer 1. -/
def initiating (esc latch : Bool) : State :=
  { State.reset with
    esc := esc, wmLatch := latch
    env := { Env.empty with turns := [.command], hostBytes := [0x01, 0x00, 0x00, 0x00], probes := [some timer1] } }

theorem initiating_takes (esc latch : Bool) : (initiating esc latch).Takes .init := ⟨rfl, rfl, rfl, [], rfl⟩

/-- The marker arrives in a transaction; INIT opens a core whose ESC was left set. -/
theorem witness_EscapeStateOwnedByTheFilter :
    ((receiving opened 0x5C).exchangeDue .clk = true ∧
      nextIs (step (receiving opened 0x5C)) (fun t => t.esc != (receiving opened 0x5C).esc) = true) ∧
    ((initiating true false).Takes .init ∧ nextIs (step (initiating true false)) (fun t => t.esc == false) = true) :=
  ⟨by decide, initiating_takes _ _, by decide⟩

/-- The open state with any IN its capacity admits, latch and pending clock. -/
theorem opened_latch_inv (l : List Byte) (latch pend : Bool) (e : Env) (hl : l.length ≤ opened.cfg.inCap) :
    State.Inv { opened with inb := l, wmLatch := latch, clkPend := pend, env := e } :=
  { opened_invariant with inbound := hl, closed := fun h => (nomatch h), waiting := fun h => absurd rfl h }

/-- A closed core with the invariant: from power-on, whatever latch it was left with. -/
theorem initiating_inv (esc latch : Bool) : (initiating esc latch).Inv where
  params := testParams_valid
  inbound := by simp [initiating, State.reset, State.resetWith]
  cursor := Nat.le_refl 0
  outbound := Nat.zero_le _
  sent := Nat.le_refl 0
  frame := Nat.zero_le _
  flight := fun h => absurd h (Nat.lt_irrefl 0)
  closed := fun _ => ⟨rfl, rfl, rfl, rfl, rfl, rfl⟩
  opened := fun h => absurd rfl h
  reply := rfl
  waiting := fun h => absurd rfl h
  legal := fun _ h => nomatch h

/-- One byte short of the high mark, a byte arriving; and one byte above the low mark, a READ of one byte. -/
def rising : State := { receiving opened 0x61 with inb := List.replicate 15 0x61 }
def falling : State := { sending opened [0x20, 0x00, 0x00, 0x01] with inb := List.replicate 5 0x61, wmLatch := true }

/-- The latch is set by the sixteenth byte, and cleared by the READ that leaves four and by INIT. -/
theorem witness_NoticesAlternate :
    (rising.Inv ∧ rising.wmLatch = false ∧ nextIs (step rising) (fun t => t.wmLatch) = true) ∧
    (falling.Inv ∧ falling.wmLatch = true ∧ nextIs (step falling) (fun t => t.wmLatch == false) = true) ∧
    ((initiating false true).Inv ∧ (initiating false true).wmLatch = true ∧
      nextIs (step (initiating false true)) (fun t => t.wmLatch == false) = true) :=
  ⟨⟨opened_latch_inv _ _ _ _ (by decide), by decide⟩, ⟨opened_latch_inv _ _ _ _ (by decide), by decide⟩,
    initiating_inv _ _, by decide⟩

/-- The latch is kept: by a byte above the high mark with the latch set, by a WRITE, by an ENQP of the high-water
notice itself, and by INIT. -/
theorem witness_NoticesAlternate_latchKept :
    (State.Inv { rising with inb := List.replicate 16 0x61, wmLatch := true } ∧
      nextIs (step { rising with inb := List.replicate 16 0x61, wmLatch := true })
        (fun t => t.wmLatch && t.inb.length == 17 && t.out == []) = true) ∧
    ((sending opened [0x10, 0x00, 0x00, 0x01, 0x41]).Inv ∧
      nextIs (step (sending opened [0x10, 0x00, 0x00, 0x01, 0x41])) (fun t => t.wmLatch == false && t.out == [0x41]) = true) ∧
    ((sending opened [0x30, 0x00, 0x00, 0x03, 0x00, 0x00, 0x00, 0x00, 0x5C, 0x77, 0x01]).Inv ∧
      nextIs (step (sending opened [0x30, 0x00, 0x00, 0x03, 0x00, 0x00, 0x00, 0x00, 0x5C, 0x77, 0x01]))
        (fun t => t.wmLatch == false && t.out == [0x5C, 0x77, 0x01]) = true) ∧
    ((initiating false false).Inv ∧ nextIs (step (initiating false false))
        (fun t => t.wmLatch == false && t.out == [0x5C, 0x76, 0x00]) = true) :=
  ⟨⟨opened_latch_inv _ _ _ _ (by decide), by decide⟩, ⟨opened_inv _, by decide⟩, ⟨opened_inv _, by decide⟩,
    initiating_inv _ _, by decide⟩
theorem witness_OnlyShutdownOrFailedInitCloses :
    opened.timerId ≠ none ∧
    nextIs (step (sending opened [0x02, 0x00, 0x00, 0x00])) (fun t => t.timerId == none) = true ∧
    nextIs (step { atTurn s1 .command with rpl := List.replicate 20 0x00, curCmd := some (.init 1) })
      (fun t => t.timerId == none) = true := by decide
theorem witness_ClockStopsOnlyByTimerMaskOrClosing :
    opened.clkArmed = true ∧ nextIs (step (atTurn opened .timer)) (fun t => t.clkArmed == false) = true ∧
    nextIs (step { receiving flying 0x00 with outCur := 2, pSent := 2, pMask := 1 })
      (fun t => t.clkArmed == false) = true ∧
    nextIs (step (sending opened [0x02, 0x00, 0x00, 0x00])) (fun t => t.clkArmed == false) = true := by decide
theorem witness_OneResponsePerCommand :
    (sending opened [0x04, 0x00, 0x00, 0x00]).drawTurn.1 = .command ∧ (sending opened []).curCmd = none ∧
    (sending opened []).env.response = [] ∧
    decode (sending opened [0x04, 0x00, 0x00, 0x00]).env.hostBytes = .instr .wait [] ∧
    nextIs (step (sending opened [0x04, 0x00, 0x00, 0x00])) (fun t => t.curCmd == some .wait) = true := by decide
theorem witness_ClosedCoreAnswersClosed : State.reset.timerId = none ∧ (Instr.read 4).isCommand = true ∧
    Instr.read 4 ≠ .init ∧ Instr.read 4 ≠ .shutdown ∧ ∀ r, Instr.read 4 ≠ .rdreg r :=
  ⟨rfl, rfl, by decide, by decide, fun _ h => Instr.noConfusion h⟩
/-- The bytes beside the filtered one. -/
theorem witness_ExpandedStreamDecodesBack : (0xFE : Byte) ≠ 0xFF ∧ (0x00 : Byte) ≠ 0xFF ∧
    unescapeStream false ([0xFE, 0xFF, 0x00].flatMap escape) = ([0xFE, 0x00], false) := by decide
theorem witness_ReceivedRowsFilter : opened.pLen ≤ opened.pSent ∧ s1.pLen ≤ s1.pSent ∧ 3 ≤ opened.cfg.outTotal ∧
    opened.esc = false ∧ State.esc { opened with esc := true } = true ∧ (Instr.rxLiteral 0x01).WellFormed := by decide
theorem witness_ReceivedRowsInFrame : flying.pSent < flying.pLen ∧
    flying.suspendsHere = (1 < 32 ∧ flying.pMask.getLsbD 1 = true) := ⟨by decide, rfl⟩
/-- OUT_CAP is 16: fourteen and fifteen bytes for a pair, fifteen and sixteen for one byte. -/
theorem witness_ExpansionRowsAppend : (List.replicate 14 (0 : Byte)).length + 2 ≤ opened.cfg.outCap ∧
    opened.cfg.outCap < (List.replicate 15 (0 : Byte)).length + 2 ∧
    (List.replicate 15 (0 : Byte)).length + 1 ≤ opened.cfg.outCap ∧
    opened.cfg.outCap < (List.replicate 16 (0 : Byte)).length + 1 := by decide
theorem witness_FillerRowTransmits : s1.out.length ≤ s1.outCur ∧ flying.outCur < flying.out.length := by decide
/-- IN_CAP is 20. -/
theorem witness_AppendEvictsAndChecks : opened.cfg.Valid ∧
    (State.inb { opened with inb := List.replicate 20 0x61 }).length = opened.cfg.inCap ∧
    (State.inb { opened with inb := List.replicate 19 0x61 }).length < opened.cfg.inCap :=
  ⟨testParams_valid, by decide, by decide⟩
theorem witness_ReadResult : opened.isOpen = true ∧ 3 ≤ opened.cfg.outTotal := by decide
/-- I10: the delimiter at the last offset of the window. -/
theorem witness_ReadlineFound : opened.isOpen = true ∧ 3 ≤ opened.cfg.outTotal ∧
    State.inb { opened with inb := [0x48, 0x49, 0x0A, 0x4A] } = [0x48, 0x49] ++ 0x0A :: [0x4A] ∧
    (0x0A : Byte) ∉ ([0x48, 0x49] : List Byte) ∧ ([0x48, 0x49] : List Byte).length < (3 : Word16).toNat := by decide
/-- I9 and I12: the delimiter just beyond the window, and the empty window. -/
theorem witness_ReadlineNotFound : opened.isOpen = true ∧ 3 ≤ opened.cfg.outTotal ∧
    (0x0A : Byte) ∉ (State.inb { opened with inb := [0x48, 0x49, 0x0A, 0x4A] }).take (2 : Word16).toNat ∧
    (0x0A : Byte) ∉ (State.inb { opened with inb := [0x0A] }).take (0 : Word16).toNat := by decide
theorem witness_AvailResult : opened.isOpen = true ∧ opened.inb.length < 2 ^ 32 := by decide
/-- I15 and I16: 18 bytes and two more fill IN, 19 and two more do not fit. -/
theorem witness_UnreadResult : opened.isOpen = true ∧
    (State.inb { opened with inb := List.replicate 18 0x61 }).length + [0x48, 0x49].length ≤ opened.cfg.inCap ∧
    opened.cfg.inCap < (State.inb { opened with inb := List.replicate 19 0x61 }).length + [0x48, 0x49].length := by decide
theorem witness_WriteAcceptsLongestPrefix : opened.isOpen = true := by decide
theorem witness_WritebPasses : opened.isOpen = true ∧
    State.drawTurn { atTurn s1 .command with curCmd := some (.writeb [0x00] 0) } =
      (.command, { s1 with curCmd := some (.writeb [0x00] 0) }) ∧ s1.tickSeen = true := by decide
theorem witness_FlushWaitsUntilDrained : s1.isOpen = true ∧ s1.outCur = s1.out.length ∧ flying.isOpen = true ∧
    flying.outCur ≠ flying.out.length ∧ (atTurn s1 .command).drawTurn.1 = .command ∧
    State.curCmd { s1 with curCmd := some .flush } = some .flush := by decide
/-- OUT_TOTAL is 20: P-I5 and P-I4. -/
theorem witness_EnqpInsertsOrRejects : opened.isOpen = true ∧
    (List.replicate 20 (0 : Byte)).length ≤ opened.cfg.outTotal ∧
    opened.cfg.outTotal < (List.replicate 21 (0 : Byte)).length := by decide
theorem witness_ControlFrameRowsInsert : opened.isOpen = true ∧ 3 ≤ opened.cfg.outTotal ∧ 6 ≤ opened.cfg.outTotal := by
  decide
theorem witness_AwaitpFirstSegment : s1.isOpen = true ∧ s1.pLen ≤ s1.pSent ∧ flying.isOpen = true ∧
    flying.pSent < flying.pLen := by decide
/-- The count at the bound, and the frame complete. -/
theorem witness_AwaitpCompletesOrTimesOut : (atTurn flying .command).drawTurn.1 = .command ∧
    State.curCmd { flying with curCmd := some (.awaitp 2) } = some (.awaitp 2) ∧ s1.pLen ≤ s1.pSent ∧
    flying.pSent < flying.pLen ∧ 2 ≤ (State.tuCount { flying with tuCount := 2 }).toNat := by decide
theorem witness_RdreplyResult : s1.isOpen = true := by decide
theorem witness_FrameIsNextOnTheWire : opened.isOpen = true ∧
    ([0x5C, 0x76, 0x00] : List Byte).length ≤ opened.cfg.outTotal ∧ [Source.clk, .lnk, .clk].length ≤ 3 ∧
    nextIs (exec (.enqp true 0 [0x5C, 0x76, 0x00]) { opened with out := [0x41, 0x42] })
      (fun t => t.out == [0x5C, 0x76, 0x00, 0x41, 0x42]) = true := by decide
theorem witness_ReplyIsCapturedByPosition : opened.isOpen = true ∧
    ([0x5C, 0x76, 0x00] : List Byte).length ≤ opened.cfg.outTotal ∧ ([0x00, 0x00, 0x23] : List Byte).length = 3 ∧
    [Source.clk, .clk, .clk].length = 3 ∧
    State.env { opened with env := { Env.empty with peerBytes := [0x00, 0x00, 0x23] } } =
      { Env.empty with peerBytes := [0x00, 0x00, 0x23] ++ [] } ∧
    nextIs (exec (.enqp true 0 [0x5C, 0x76, 0x00]) opened) (fun t => t.pCap) = true := by decide
theorem witness_TransactionInFrame : flying.pSent < flying.pLen ∧ flying.outCur < flying.out.length := by decide
theorem witness_TransactionOutsideFrame : opened.pLen ≤ opened.pSent ∧ s1.pLen ≤ s1.pSent ∧ 3 ≤ opened.cfg.outTotal := by
  decide
theorem witness_ArmedClockLeadsToTransaction :
    State.Inv { opened with env := { Env.empty with turns := [.pulse] ++ .timer :: [.linkChange] ++ .exchange .clk :: [] } } ∧
    opened.timerId ≠ none ∧ opened.clkArmed = true ∧ Turn.command ∉ [Turn.pulse] ∧ Turn.command ∉ [Turn.linkChange] :=
  ⟨opened_inv _, by decide, by decide, by decide, by decide⟩
theorem witness_InitOpensTheCore : State.reset.timerId = none ∧
    (State.drawProbe { State.reset with env := { Env.empty with probes := [some timer1] } }).1 = some timer1 ∧
    State.reset.cfg.initRetries ≠ 0 ∧ 3 ≤ State.reset.cfg.outTotal := by decide
/-- C1, C2 and C3. -/
theorem witness_InitTurnedAway : opened.timerId ≠ none ∧ State.reset.timerId = none ∧
    (State.drawProbe { State.reset with env := { Env.empty with probes := [none] } }).1 = none ∧
    (State.drawProbe { State.reset with env := { Env.empty with probes := [some timer1] } }).1 ≠ none ∧
    Params.initRetries { Config.testParams with initRetries := 0 } = 0 := by decide
/-- A completed round trip with each of the three bytes, the last attempt included, and one that timed out (C7). -/
theorem witness_InitRoundTripOutcome :
    (atTurn s1 .command).drawTurn = (.command, s1) ∧ s1.pLen ≤ s1.pSent ∧ s1.rpl[2]? = some 0x23 ∧
    (State.rpl { s1 with rpl := List.replicate 20 0x00 })[2]? = some 0x00 ∧
    (State.rpl { s1 with rpl := List.replicate 20 0xFF })[2]? = some 0xFF ∧ 3 ≤ s1.cfg.outTotal ∧
    3 = s1.cfg.initRetries ∧ 1 ≠ s1.cfg.initRetries ∧ flying.pSent < flying.pLen ∧
    Params.initTimeout { Config.testParams with initTimeout := 2 } ≠ 0 ∧
    Params.initTimeout { Config.testParams with initTimeout := 2 } ≤ (State.tuCount { flying with tuCount := 2 }).toNat := by
  decide
theorem witness_ShutdownResult : opened.timerId ≠ none ∧ State.reset.timerId = none := by decide
theorem witness_SetrateResult : opened.isOpen = true ∧ (1000 : Word32) ≠ 0 ∧
    opened.cfg.rateTable = ⟨1000, 33, 1003⟩ :: [] := by decide
/-- The first reserved register number and the last; the core open and closed. -/
theorem witness_RdregReadsTheView : opened.Inv ∧ 0x12 ≤ (0x12 : Byte).toNat ∧ 0x12 ≤ (0xFF : Byte).toNat ∧
    State.reset.timerId = none ∧ opened.timerId = some timer1 :=
  ⟨opened_inv Env.empty, by decide, by decide, by decide, by decide⟩
theorem witness_WaitForATransaction : s1.isOpen = true ∧ (atTurn s1 .command).drawTurn.1 = .command ∧
    State.curCmd { s1 with curCmd := some .wait } = some .wait ∧ s1.tickSeen = true := by decide

/-- A core built with other places for its ports, and another time-unit, takes a pulse. -/
theorem witness_NoStepReadsPortBindingOrTimeUnit :
    step (atTurn opened .pulse) = .next { opened with tuCount := 1 } ∧
    opened.withPlatform ⟨.memoryMapped 0x4000, .fifo 1⟩ 1000 ≠ opened :=
  ⟨rfl, fun h => absurd (congrArg (fun s => s.cfg.timeUnit) h) (by decide)⟩

end Sys2Proof.Tests
end

section
/-! Completion and waiting (R18, R19): the bytes of a response, and the command that goes on waiting. -/

namespace Sys2Proof.Machine

/-! ### The bytes of a response -/

/-- R76: a 16-bit count, most significant byte first, by division; a longer count loses its high bits. -/
theorem bytes16_ofNat (n : Nat) :
    bytes16 (BitVec.ofNat 16 n) = [BitVec.ofNat 8 (n / 256), BitVec.ofNat 8 n] := by
  have hi : n % 65536 / 256 % 256 = n / 256 % 256 := by omega
  have lo : n % 65536 % 256 = n % 256 := by omega
  simp [bytes16, ← BitVec.toNat_inj, Nat.shiftRight_eq_div_pow, hi, lo]

/-- R76: a 32-bit value, most significant byte first, by division. -/
theorem bytes32_eq (v : Word32) :
    bytes32 v = [BitVec.ofNat 8 (v.toNat / 2 ^ 24), BitVec.ofNat 8 (v.toNat / 2 ^ 16),
      BitVec.ofNat 8 (v.toNat / 2 ^ 8), BitVec.ofNat 8 v.toNat] := by
  simp [bytes32, BitVec.extractLsb', Nat.shiftRight_eq_div_pow]

/-- Settles O25: the two multi-byte fields by division, the codes by evaluation. -/
theorem responseFormatAndStatusCodes : Obligations.ResponseFormatAndStatusCodes := by
  unfold Obligations.ResponseFormatAndStatusCodes
  refine ⟨fun s st v d => ⟨rfl, ?_⟩, rfl, rfl, rfl, rfl, rfl, rfl, rfl, rfl, rfl, rfl, rfl, fun st => ?_⟩
  · rw [responseBytes, bytes16_ofNat, bytes32_eq]
    rfl
  · cases st <;> decide

/-! ### A waiting command -/

/-- R201, R241: the await of a frame in flight is not over before its time-out, and 0 stands for none. -/
theorem awaitFrame_eq_false {s : State} {t : Nat} (hf : s.pSent < s.pLen) (ht : t = 0 ∨ s.tuCount.toNat < t) :
    (!s.inFlight || s.timedOut t) = false := by
  have hto : s.timedOut t = false := by
    rw [← Bool.not_eq_true, timedOut_iff]
    omega
  rw [inFlight_iff.2 hf, hto]
  rfl

/-- R19: a command whose condition does not hold goes on waiting. -/
theorem resumeCommand_of_not_awaitHolds {s : State} {c : CurCmd} (h : s.awaitHolds c = false) :
    s.resumeCommand c = s := by simp [State.resumeCommand, h]

/-- A draw of a turn decides no await. -/
theorem drawTurn_awaitHolds (s : State) (c : CurCmd) : s.drawTurn.2.awaitHolds c = s.awaitHolds c := by
  obtain ⟨e, he, -⟩ := drawTurn_state s
  rw [he]
  cases c <;> rfl

/-- R84: the Command unit's step with a command waiting. -/
theorem step_waiting {s : State} {c : CurCmd} (ht : s.drawTurn.1 = .command) (hc : s.curCmd = some c) :
    step s = .next (s.drawTurn.2.resumeCommand c) := by
  obtain ⟨e, he, -⟩ := drawTurn_state s
  have hc' : s.drawTurn.2.curCmd = some c := by rw [he]; exact hc
  rw [step, ht]
  exact commandTurn_waiting hc'

/-- Settles O9: each command's condition as its rule states it is the negation of its await. -/
theorem waitingCommandHoldsStill : Obligations.WaitingCommandHoldsStill := by
  unfold Obligations.WaitingCommandHoldsStill
  intro s c ht hc hcond
  have hfalse : s.awaitHolds c = false := by
    cases c with
    | wait => exact hcond
    | writeb rem total => exact hcond
    | flush => exact decide_eq_false hcond
    | awaitp t => exact awaitFrame_eq_false hcond.1 hcond.2
    | init a => exact awaitFrame_eq_false hcond.1 hcond.2
  rw [step_waiting ht hc, resumeCommand_of_not_awaitHolds ((drawTurn_awaitHolds s c).trans hfalse)]

end Sys2Proof.Machine
end

section
/-! What becomes of the build parameters (R8): no operation changes one, and none reads PORT_BINDING or TIME_UNIT. Each
operation has one lemma for either fact, `exec_eq_next` puts them together for an instruction, and the two statements
about `step` (O18, O60) are read off. The operations stand in the order of the model's files. -/

namespace Sys2Proof.Machine

/-! ### No operation changes the parameters -/

section Cfg

variable (s : State)

@[simp] theorem drawTurn_cfg : s.drawTurn.2.cfg = s.cfg := by
  obtain ⟨e, he, -⟩ := drawTurn_state s
  rw [he]

@[simp] theorem drawPeerByte_cfg : s.drawPeerByte.2.cfg = s.cfg := by
  obtain ⟨e, he, -⟩ := drawPeerByte_state s
  rw [he]

@[simp] theorem drawProbe_cfg : s.drawProbe.2.cfg = s.cfg := by
  obtain ⟨e, he, -⟩ := drawProbe_state s
  rw [he]

theorem whenOpen_cfg {run : State → State} (h : ∀ t, (run t).cfg = t.cfg) : (s.whenOpen run).cfg = s.cfg := by
  rcases whenOpen_spec s run with ⟨-, e⟩ | ⟨-, e⟩ <;> simp [e, h]

@[simp] theorem compactIfIdle_cfg : s.compactIfIdle.cfg = s.cfg := by
  rcases compactIfIdle_spec s with ⟨-, e⟩ | ⟨-, e⟩ <;> simp [e]

@[simp] theorem appendExpansion_cfg (e : List Byte) : (s.appendExpansion e).cfg = s.cfg := by
  unfold State.appendExpansion
  split <;> simp

@[simp] theorem writeLoop_cfg (src : List Byte) : (s.writeLoop src).2.cfg = s.cfg := by
  rw [(writeLoop_spec src s).2.1, push_cfg]

@[simp] theorem writeCore_cfg (src : List Byte) : (s.writeCore src).2.cfg = s.cfg := by simp [State.writeCore]

@[simp] theorem prioInsert_cfg (f : List Byte) (cap : Bool) (mask : Word32) :
    (s.prioInsert f cap mask).2.cfg = s.cfg := by
  rcases prioInsert_spec s f cap mask with ⟨-, e⟩ | ⟨-, e⟩ <;> simp [e, insertFrame_eq]

@[simp] theorem highCheck_cfg : s.highCheck.cfg = s.cfg := by
  rcases highCheck_spec s with ⟨-, e⟩ | ⟨-, e⟩ <;> simp [e]

@[simp] theorem lowCheck_cfg : s.lowCheck.cfg = s.cfg := by
  rcases lowCheck_spec s with ⟨-, e⟩ | ⟨-, e⟩ <;> simp [e]

@[simp] theorem evict_cfg : s.evict.cfg = s.cfg := by
  rcases evict_spec s with ⟨-, e⟩ | ⟨-, e⟩ <;> simp [e]

@[simp] theorem inAppend_cfg (d : Byte) : (s.inAppend d).cfg = s.cfg := by simp [State.inAppend]

@[simp] theorem clearPending_cfg (src : Source) : (s.clearPending src).cfg = s.cfg := by cases src <;> rfl

@[simp] theorem filterStep_cfg (rx : Byte) : (s.filterStep rx).cfg = s.cfg := by
  rcases filterStep_spec s rx with ⟨d, -, e⟩ | ⟨-, e⟩ <;> simp [e]

@[simp] theorem receive_cfg (rx : Byte) : (s.receive rx).cfg = s.cfg := by
  rcases receive_spec s rx with ⟨-, e⟩ | ⟨-, e⟩ <;> simp [e]

@[simp] theorem transaction_cfg (src : Source) : (s.transaction src).cfg = s.cfg := by
  simp [State.transaction, State.beginTransaction]

@[simp] theorem runRead_cfg (n : Nat) : (s.runRead n).cfg = s.cfg := by simp [State.runRead]

@[simp] theorem runReadline_cfg (delim : Byte) (n : Nat) : (s.runReadline delim n).cfg = s.cfg := by
  unfold State.runReadline
  split <;> simp

@[simp] theorem runUnread_cfg (data : List Byte) : (s.runUnread data).cfg = s.cfg := by
  unfold State.runUnread
  split <;> simp

@[simp] theorem startRoundTrip_cfg : s.startRoundTrip.cfg = s.cfg := by simp [State.startRoundTrip]

@[simp] theorem initFail_cfg : s.initFail.cfg = s.cfg := by simp [State.initFail]

@[simp] theorem initLoop_cfg (a : Nat) : (s.initLoop a).cfg = s.cfg := by
  unfold State.initLoop
  split <;> simp

@[simp] theorem endRoundTrip_cfg : s.endRoundTrip.cfg = s.cfg := by
  unfold State.endRoundTrip
  split <;> simp

@[simp] theorem resumeInit_cfg (a : Nat) : (s.resumeInit a).cfg = s.cfg := by
  simp only [State.resumeInit]
  split_ifs <;> simp

@[simp] theorem runInit_cfg : s.runInit.cfg = s.cfg := by
  simp only [State.runInit]
  split
  · simp
  · split <;> simp

@[simp] theorem runSetrate_cfg (rate : Word32) : (s.runSetrate rate).cfg = s.cfg := by
  unfold State.runSetrate
  split <;> simp

@[simp] theorem runWrite_cfg (data : List Byte) : (s.runWrite data).cfg = s.cfg := by simp [State.runWrite]

@[simp] theorem writebPass_cfg (rem : List Byte) (total : Nat) : (s.writebPass rem total).cfg = s.cfg := by
  simp only [State.writebPass]
  split <;> simp

@[simp] theorem runFlush_cfg : s.runFlush.cfg = s.cfg := by
  unfold State.runFlush
  split <;> simp

@[simp] theorem runEnqp_cfg (cap : Bool) (mask : Word32) (frame : List Byte) :
    (s.runEnqp cap mask frame).cfg = s.cfg := by simp [State.runEnqp]

@[simp] theorem awaitpPass_cfg (t : Nat) : (s.awaitpPass t).cfg = s.cfg := by
  unfold State.awaitpPass
  split_ifs <;> simp

@[simp] theorem timerEvent_cfg : s.timerEvent.cfg = s.cfg := by
  unfold State.timerEvent
  split <;> rfl

@[simp] theorem linkChangeEvent_cfg : s.linkChangeEvent.cfg = s.cfg := by
  unfold State.linkChangeEvent
  split <;> rfl

@[simp] theorem pulseEvent_cfg : s.pulseEvent.cfg = s.cfg := rfl

@[simp] theorem hostReadEvent_cfg : s.hostReadEvent.cfg = s.cfg := rfl

@[simp] theorem resumeCommand_cfg (c : CurCmd) : (s.resumeCommand c).cfg = s.cfg := by
  unfold State.resumeCommand
  split
  · cases c <;> simp [State.resumeSegment, State.resumeWait]
  · rfl

end Cfg

/-! ### No operation reads PORT_BINDING or TIME_UNIT

First what a core built with others shows: the same elements but `cfg`, hence the same conditions. Then each operation,
on which the change of the two parameters may be made before or after. -/

section Platform

variable (s : State) (ports : PortBinding) (unit : Nat)

@[simp] theorem withPlatform_env : (s.withPlatform ports unit).env = s.env := rfl
@[simp] theorem withPlatform_inb : (s.withPlatform ports unit).inb = s.inb := rfl
@[simp] theorem withPlatform_rpl : (s.withPlatform ports unit).rpl = s.rpl := rfl
@[simp] theorem withPlatform_esc : (s.withPlatform ports unit).esc = s.esc := rfl
@[simp] theorem withPlatform_curCmd : (s.withPlatform ports unit).curCmd = s.curCmd := rfl
@[simp] theorem withPlatform_outTotal : (s.withPlatform ports unit).cfg.outTotal = s.cfg.outTotal := rfl
@[simp] theorem withPlatform_verMask : (s.withPlatform ports unit).cfg.verMask = s.cfg.verMask := rfl
@[simp] theorem withPlatform_initRetries : (s.withPlatform ports unit).cfg.initRetries = s.cfg.initRetries := rfl
@[simp] theorem withPlatform_isOpen : (s.withPlatform ports unit).isOpen = s.isOpen := rfl
@[simp] theorem withPlatform_inFlight : (s.withPlatform ports unit).inFlight = s.inFlight := rfl
@[simp] theorem withPlatform_drained : (s.withPlatform ports unit).drained = s.drained := rfl
@[simp] theorem withPlatform_highDue : (s.withPlatform ports unit).highDue = s.highDue := rfl
@[simp] theorem withPlatform_lowDue : (s.withPlatform ports unit).lowDue = s.lowDue := rfl
@[simp] theorem withPlatform_timedOut (t : Nat) : (s.withPlatform ports unit).timedOut t = s.timedOut t := rfl
@[simp] theorem withPlatform_fits (e : List Byte) : (s.withPlatform ports unit).fits e = s.fits e := rfl
@[simp] theorem withPlatform_frameFits (f : List Byte) : (s.withPlatform ports unit).frameFits f = s.frameFits f := rfl
@[simp] theorem withPlatform_rateFn (rate : Word32) :
    rateFn (s.withPlatform ports unit).cfg rate = rateFn s.cfg rate := rfl
@[simp] theorem withPlatform_exchangeDue (src : Source) :
    (s.withPlatform ports unit).exchangeDue src = s.exchangeDue src := by cases src <;> rfl
@[simp] theorem withPlatform_awaitHolds (c : CurCmd) :
    (s.withPlatform ports unit).awaitHolds c = s.awaitHolds c := by cases c <;> rfl
@[simp] theorem withPlatform_registerView (reg : Byte) :
    (s.withPlatform ports unit).registerView reg = s.registerView reg := rfl

theorem withPlatform_ite (c : Prop) [Decidable c] (a b : State) :
    (if c then a else b).withPlatform ports unit =
      if c then a.withPlatform ports unit else b.withPlatform ports unit :=
  apply_ite (State.withPlatform · ports unit) c a b

@[simp] theorem finish_withPlatform (st : Status) (v : Word32) (d : List Byte) :
    (s.withPlatform ports unit).finish st v d = (s.finish st v d).withPlatform ports unit := rfl
@[simp] theorem await_withPlatform (c : CurCmd) :
    (s.withPlatform ports unit).await c = (s.await c).withPlatform ports unit := rfl
@[simp] theorem compact_withPlatform : (s.withPlatform ports unit).compact = s.compact.withPlatform ports unit := rfl
@[simp] theorem push_withPlatform (e : List Byte) :
    (s.withPlatform ports unit).push e = (s.push e).withPlatform ports unit := rfl
@[simp] theorem insertFrame_withPlatform (f : List Byte) (cap : Bool) (mask : Word32) :
    (s.withPlatform ports unit).insertFrame f cap mask = (s.insertFrame f cap mask).withPlatform ports unit := rfl
@[simp] theorem demote_withPlatform : (s.withPlatform ports unit).demote = s.demote.withPlatform ports unit := rfl
@[simp] theorem dropInbound_withPlatform (k : Nat) :
    (s.withPlatform ports unit).dropInbound k = (s.dropInbound k).withPlatform ports unit := rfl
@[simp] theorem openCore_withPlatform (id : TimerId) :
    (s.withPlatform ports unit).openCore id = (s.openCore id).withPlatform ports unit := rfl
@[simp] theorem closeCore_withPlatform :
    (s.withPlatform ports unit).closeCore = s.closeCore.withPlatform ports unit := rfl
@[simp] theorem clearPending_withPlatform (src : Source) :
    (s.withPlatform ports unit).clearPending src = (s.clearPending src).withPlatform ports unit := by cases src <;> rfl
@[simp] theorem transmit_withPlatform :
    (s.withPlatform ports unit).transmit = s.transmit.withPlatform ports unit := rfl
@[simp] theorem rearm_withPlatform : (s.withPlatform ports unit).rearm = s.rearm.withPlatform ports unit := rfl
@[simp] theorem priorityStep_withPlatform (rx : Byte) :
    (s.withPlatform ports unit).priorityStep rx = (s.priorityStep rx).withPlatform ports unit := rfl
@[simp] theorem endTransaction_withPlatform :
    (s.withPlatform ports unit).endTransaction = s.endTransaction.withPlatform ports unit := rfl
@[simp] theorem setRate_withPlatform (rate : Word32) :
    (s.withPlatform ports unit).setRate rate = (s.setRate rate).withPlatform ports unit := rfl
@[simp] theorem clearTick_withPlatform :
    (s.withPlatform ports unit).clearTick = s.clearTick.withPlatform ports unit := rfl
@[simp] theorem clearTimeUnits_withPlatform :
    (s.withPlatform ports unit).clearTimeUnits = s.clearTimeUnits.withPlatform ports unit := rfl
@[simp] theorem withHostBytes_withPlatform (rest : List Byte) :
    (s.withPlatform ports unit).withHostBytes rest = (s.withHostBytes rest).withPlatform ports unit := rfl
@[simp] theorem pulseEvent_withPlatform :
    (s.withPlatform ports unit).pulseEvent = s.pulseEvent.withPlatform ports unit := rfl
@[simp] theorem hostReadEvent_withPlatform :
    (s.withPlatform ports unit).hostReadEvent = s.hostReadEvent.withPlatform ports unit := rfl

@[simp] theorem drawTurn_withPlatform :
    (s.withPlatform ports unit).drawTurn = (s.drawTurn.1, s.drawTurn.2.withPlatform ports unit) := by
  simp only [State.drawTurn, withPlatform_env]
  cases s.env.turns <;> rfl

@[simp] theorem drawPeerByte_withPlatform :
    (s.withPlatform ports unit).drawPeerByte = (s.drawPeerByte.1, s.drawPeerByte.2.withPlatform ports unit) := by
  simp only [State.drawPeerByte, withPlatform_env]
  cases s.env.peerBytes <;> rfl

@[simp] theorem drawProbe_withPlatform :
    (s.withPlatform ports unit).drawProbe = (s.drawProbe.1, s.drawProbe.2.withPlatform ports unit) := by
  simp only [State.drawProbe, withPlatform_env]
  cases s.env.probes <;> rfl

theorem whenOpen_withPlatform {run : State → State}
    (h : ∀ t, run (t.withPlatform ports unit) = (run t).withPlatform ports unit) :
    (s.withPlatform ports unit).whenOpen run = (s.whenOpen run).withPlatform ports unit := by
  by_cases ho : s.isOpen = true <;> simp [State.whenOpen, ho, h]

@[simp] theorem compactIfIdle_withPlatform :
    (s.withPlatform ports unit).compactIfIdle = s.compactIfIdle.withPlatform ports unit := by
  by_cases h : s.inFlight = true <;> simp [State.compactIfIdle, h]

@[simp] theorem appendExpansion_withPlatform (e : List Byte) :
    (s.withPlatform ports unit).appendExpansion e = (s.appendExpansion e).withPlatform ports unit := by
  by_cases h : s.fits e = true <;> simp [State.appendExpansion, h]

@[simp] theorem writeLoop_withPlatform (src : List Byte) : ∀ s : State,
    (s.withPlatform ports unit).writeLoop src =
      ((s.writeLoop src).1, (s.writeLoop src).2.withPlatform ports unit) := by
  induction src with
  | nil => intro s; rfl
  | cons b bs ih =>
    intro s
    by_cases h : s.fits (escape b) = true <;> simp [State.writeLoop, h, ih]

@[simp] theorem writeCore_withPlatform (src : List Byte) :
    (s.withPlatform ports unit).writeCore src =
      ((s.writeCore src).1, (s.writeCore src).2.withPlatform ports unit) := by simp [State.writeCore]

@[simp] theorem prioInsert_withPlatform (f : List Byte) (cap : Bool) (mask : Word32) :
    (s.withPlatform ports unit).prioInsert f cap mask =
      ((s.prioInsert f cap mask).1, (s.prioInsert f cap mask).2.withPlatform ports unit) := by
  by_cases h : s.frameFits f = true <;> simp [State.prioInsert, h]

@[simp] theorem highCheck_withPlatform :
    (s.withPlatform ports unit).highCheck = s.highCheck.withPlatform ports unit := by
  by_cases h : s.highDue = true
  · simp only [State.highCheck, withPlatform_highDue, h, if_true, prioInsert_withPlatform]
    rfl
  · simp [State.highCheck, h]

@[simp] theorem lowCheck_withPlatform :
    (s.withPlatform ports unit).lowCheck = s.lowCheck.withPlatform ports unit := by
  by_cases h : s.lowDue = true
  · simp only [State.lowCheck, withPlatform_lowDue, h, if_true, prioInsert_withPlatform]
    rfl
  · simp [State.lowCheck, h]

@[simp] theorem evict_withPlatform : (s.withPlatform ports unit).evict = s.evict.withPlatform ports unit := by
  unfold State.evict
  rw [withPlatform_ite]
  rfl

@[simp] theorem inAppend_withPlatform (d : Byte) :
    (s.withPlatform ports unit).inAppend d = (s.inAppend d).withPlatform ports unit := by
  simp only [State.inAppend, evict_withPlatform]
  exact highCheck_withPlatform { s.evict with inb := s.evict.inb ++ [d] } ports unit

@[simp] theorem filterStep_withPlatform (rx : Byte) :
    (s.withPlatform ports unit).filterStep rx = (s.filterStep rx).withPlatform ports unit := by
  simp only [State.filterStep, withPlatform_esc]
  split
  · exact inAppend_withPlatform { s with esc := (unescape rx s.esc).2 } ports unit _
  · rfl

@[simp] theorem receive_withPlatform (rx : Byte) :
    (s.withPlatform ports unit).receive rx = (s.receive rx).withPlatform ports unit := by
  by_cases h : s.inFlight = true <;> simp [State.receive, h]

@[simp] theorem transaction_withPlatform (src : Source) :
    (s.withPlatform ports unit).transaction src = (s.transaction src).withPlatform ports unit := by
  simp [State.transaction, State.beginTransaction]

@[simp] theorem runRead_withPlatform (n : Nat) :
    (s.withPlatform ports unit).runRead n = (s.runRead n).withPlatform ports unit := by simp [State.runRead]

@[simp] theorem runReadline_withPlatform (delim : Byte) (n : Nat) :
    (s.withPlatform ports unit).runReadline delim n = (s.runReadline delim n).withPlatform ports unit := by
  simp only [State.runReadline, withPlatform_inb]
  split <;> simp

@[simp] theorem runUnread_withPlatform (data : List Byte) :
    (s.withPlatform ports unit).runUnread data = (s.runUnread data).withPlatform ports unit := by
  unfold State.runUnread
  rw [withPlatform_ite]
  rfl

@[simp] theorem initFail_withPlatform :
    (s.withPlatform ports unit).initFail = s.initFail.withPlatform ports unit := by simp [State.initFail]

@[simp] theorem startRoundTrip_withPlatform :
    (s.withPlatform ports unit).startRoundTrip = s.startRoundTrip.withPlatform ports unit := by
  simp only [State.startRoundTrip, prioInsert_withPlatform, withPlatform_verMask]
  rfl

@[simp] theorem initLoop_withPlatform (a : Nat) :
    (s.withPlatform ports unit).initLoop a = (s.initLoop a).withPlatform ports unit := by
  by_cases h : a = s.cfg.initRetries <;> simp [State.initLoop, h]

@[simp] theorem endRoundTrip_withPlatform :
    (s.withPlatform ports unit).endRoundTrip = s.endRoundTrip.withPlatform ports unit := by
  by_cases h : s.inFlight = true <;> simp [State.endRoundTrip, h]

@[simp] theorem resumeInit_withPlatform (a : Nat) :
    (s.withPlatform ports unit).resumeInit a = (s.resumeInit a).withPlatform ports unit := by
  simp only [State.resumeInit, endRoundTrip_withPlatform, withPlatform_rpl]
  split_ifs
  · simp
  · simp
  · rfl

@[simp] theorem runInit_withPlatform :
    (s.withPlatform ports unit).runInit = s.runInit.withPlatform ports unit := by
  by_cases h : s.isOpen = true
  · simp [State.runInit, h]
  · simp only [State.runInit, withPlatform_isOpen, h, drawProbe_withPlatform]
    cases s.drawProbe.1 <;> simp

@[simp] theorem runSetrate_withPlatform (rate : Word32) :
    (s.withPlatform ports unit).runSetrate rate = (s.runSetrate rate).withPlatform ports unit := by
  simp only [State.runSetrate, withPlatform_rateFn]
  split <;> simp

@[simp] theorem runWrite_withPlatform (data : List Byte) :
    (s.withPlatform ports unit).runWrite data = (s.runWrite data).withPlatform ports unit := by simp [State.runWrite]

@[simp] theorem writebPass_withPlatform (rem : List Byte) (total : Nat) :
    (s.withPlatform ports unit).writebPass rem total = (s.writebPass rem total).withPlatform ports unit := by
  simp only [State.writebPass, writeCore_withPlatform]
  split <;> simp

@[simp] theorem runFlush_withPlatform :
    (s.withPlatform ports unit).runFlush = s.runFlush.withPlatform ports unit := by
  by_cases h : s.drained = true <;> simp [State.runFlush, h]

@[simp] theorem runEnqp_withPlatform (cap : Bool) (mask : Word32) (frame : List Byte) :
    (s.withPlatform ports unit).runEnqp cap mask frame = (s.runEnqp cap mask frame).withPlatform ports unit := by
  simp [State.runEnqp]

@[simp] theorem awaitpPass_withPlatform (t : Nat) :
    (s.withPlatform ports unit).awaitpPass t = (s.awaitpPass t).withPlatform ports unit := by
  by_cases hf : s.inFlight = true
  · by_cases ht : s.timedOut t = true <;> simp [State.awaitpPass, hf, ht]
  · simp [State.awaitpPass, hf]

@[simp] theorem timerEvent_withPlatform :
    (s.withPlatform ports unit).timerEvent = s.timerEvent.withPlatform ports unit := by
  unfold State.timerEvent
  rw [withPlatform_ite]
  rfl

@[simp] theorem linkChangeEvent_withPlatform :
    (s.withPlatform ports unit).linkChangeEvent = s.linkChangeEvent.withPlatform ports unit := by
  unfold State.linkChangeEvent
  rw [withPlatform_ite]
  rfl

@[simp] theorem resumeCommand_withPlatform (c : CurCmd) :
    (s.withPlatform ports unit).resumeCommand c = (s.resumeCommand c).withPlatform ports unit := by
  by_cases h : s.awaitHolds c = true
  · cases c <;> simp [State.resumeCommand, h, State.resumeSegment, State.resumeWait]
  · simp [State.resumeCommand, h]

end Platform

/-! ### Instructions and turns -/

/-- R8: what a function on states does that fixes every parameter and reads neither PORT_BINDING nor TIME_UNIT. -/
structure RespectsParameters (f : State → State) : Prop where
  cfg : ∀ s, (f s).cfg = s.cfg
  withPlatform : ∀ s ports unit, f (s.withPlatform ports unit) = (f s).withPlatform ports unit

theorem RespectsParameters.whenOpen {run : State → State} (h : RespectsParameters run) :
    RespectsParameters (fun s => s.whenOpen run) where
  cfg s := whenOpen_cfg s h.cfg
  withPlatform s ports unit := whenOpen_withPlatform s ports unit (h.withPlatform · ports unit)

/-- Every instruction answers a next state, by a function that respects the parameters. -/
theorem exec_eq_next (i : Instr) : ∃ f, (∀ s, exec i s = .next (f s)) ∧ RespectsParameters f := by
  cases i with
  | init => exact ⟨_, fun _ => rfl, by simp, by simp⟩
  | shutdown =>
    refine ⟨_, fun _ => rfl, fun s => ?_, fun s ports unit => ?_⟩
    · by_cases h : s.isOpen = true <;> simp [h]
    · by_cases h : s.isOpen = true <;> simp [h]
  | rdreg reg =>
    refine ⟨_, fun _ => rfl, fun s => ?_, fun s ports unit => ?_⟩
    · cases s.registerView reg <;> simp
    · cases h : s.registerView reg <;> simp [h]
  | rxEscape | rxLiteralAfterEscape | rxNoise00 | rxNoiseFF | rxLiteral =>
    exact ⟨fun s => s.receive _, fun _ => rfl, by simp, by simp⟩
  | txEscape00 | txEscape5C | txLiteral => exact ⟨fun s => s.appendExpansion _, fun _ => rfl, by simp, by simp⟩
  | txFiller => exact ⟨_, fun _ => rfl, by simp, by simp⟩
  | setrate | wait | write | writeb | flush | read | readline | avail | unread | enqp | awaitp | rdreply
  | setrateFrame | versionQuery | wmLow | wmHigh =>
    exact ⟨_, fun _ => rfl, RespectsParameters.whenOpen ⟨by simp, by simp⟩⟩

theorem exec_cfg {i : Instr} {s t : State} (h : exec i s = .next t) : t.cfg = s.cfg := by
  obtain ⟨f, hf, hr⟩ := exec_eq_next i
  cases (hf s).symm.trans h
  exact hr.cfg s

theorem exec_withPlatform {i : Instr} {s t : State} (h : exec i s = .next t) (ports : PortBinding) (unit : Nat) :
    exec i (s.withPlatform ports unit) = .next (t.withPlatform ports unit) := by
  obtain ⟨f, hf, hr⟩ := exec_eq_next i
  cases (hf s).symm.trans h
  rw [hf, hr.withPlatform]

/-- Settles O18: every step leaves the configuration as it was, by the ways a step can go (`step_spec`). -/
theorem parametersAreFixed : Obligations.ParametersAreFixed := by
  unfold Obligations.ParametersAreFixed
  intro s t h
  rcases step_spec h with ⟨-, rfl⟩ | ⟨-, rfl⟩ | ⟨-, rfl⟩ | ⟨-, rfl⟩ | ⟨-, rfl⟩ | ⟨src, -, ⟨-, rfl⟩ | ⟨-, rfl⟩⟩ |
    ⟨c, -, -, rfl⟩ | ⟨-, -, hcommand⟩
  on_goal 9 =>
    rcases hcommand with ⟨i, rest, -, -, hx⟩ | ⟨why, rest, -, -, rfl⟩ | ⟨-, rfl⟩
    · simpa using exec_cfg hx
  all_goals simp

/-- R84, R90, R99: the idle Command unit runs the legal command it finds. -/
theorem commandTurn_of_instr {s : State} {i : Instr} {rest : List Byte} (hc : s.curCmd = none)
    (hr : s.env.response = []) (hd : decode s.env.hostBytes = .instr i rest) :
    commandTurn s = exec i (s.withHostBytes rest) := by simp [commandTurn, fetchCommand, hc, hr, hd]

/-- R98: the idle Command unit answers the illegal command it finds. -/
theorem commandTurn_of_bad {s : State} {why : Reject} {rest : List Byte} (hc : s.curCmd = none)
    (hr : s.env.response = []) (hd : decode s.env.hostBytes = .bad why rest) :
    commandTurn s = .next ((s.withHostBytes rest).finish .badCommand 0 []) := by
  simp [commandTurn, fetchCommand, hc, hr, hd]

/-- R90, I19: the idle Command unit passes while a response is unread or no whole command was sent. -/
theorem commandTurn_of_idle {s : State} (hc : s.curCmd = none)
    (hi : s.env.response ≠ [] ∨ decode s.env.hostBytes = .incomplete) : commandTurn s = .next s := by
  by_cases hr : s.env.response = []
  · simp [commandTurn, fetchCommand, hc, hr, hi.resolve_left (not_not_intro hr)]
  · simp [commandTurn, fetchCommand, hc, hr]

/-- R84, R90: neither the command waiting nor the bytes on the port depend on where the ports are placed. -/
theorem commandTurn_withPlatform {s t : State} (h : commandTurn s = .next t) (ports : PortBinding) (unit : Nat) :
    commandTurn (s.withPlatform ports unit) = .next (t.withPlatform ports unit) := by
  cases hc : s.curCmd with
  | some c =>
    rw [commandTurn_waiting hc] at h
    rw [commandTurn_waiting (c := c) (by simpa using hc), resumeCommand_withPlatform]
    cases h
    rfl
  | none =>
    have hc' : (s.withPlatform ports unit).curCmd = none := hc
    rcases commandTurn_idle hc with ⟨i, rest, hr, hd, e⟩ | ⟨why, rest, hr, hd, e⟩ | ⟨hi, e⟩ <;> rw [e] at h
    · rw [commandTurn_of_instr hc' hr hd, withHostBytes_withPlatform]
      exact exec_withPlatform h ports unit
    · rw [commandTurn_of_bad hc' hr hd, withHostBytes_withPlatform, finish_withPlatform]
      cases h
      rfl
    · rw [commandTurn_of_idle hc' hi]
      cases h
      rfl

/-- R11: no agent's turn reads PORT_BINDING or TIME_UNIT. -/
theorem takeTurn_withPlatform {turn : Turn} {s t : State} (h : takeTurn turn s = .next t) (ports : PortBinding)
    (unit : Nat) : takeTurn turn (s.withPlatform ports unit) = .next (t.withPlatform ports unit) := by
  cases turn with
  | command => exact commandTurn_withPlatform h ports unit
  | exchange src =>
    simp only [takeTurn, exchangeTurn_spec] at h ⊢
    cases h
    by_cases hd : s.exchangeDue src = true <;> simp [hd]
  | hostRead | timer | linkChange | linkReset | pulse =>
    cases h
    simp [takeTurn]

/-- Settles O60: the same turn is drawn, and its agent reads neither parameter. -/
theorem noStepReadsPortBindingOrTimeUnit : Obligations.NoStepReadsPortBindingOrTimeUnit := by
  unfold Obligations.NoStepReadsPortBindingOrTimeUnit
  intro s t ports unit h
  unfold step at h ⊢
  rw [drawTurn_withPlatform]
  exact takeTurn_withPlatform h ports unit

end Sys2Proof.Machine
end

section
/-! From an armed clock to a transaction (R228, bounded): what the steps between do to the wire, to the turns to come
and to the clock, and a rule for runs along a list of turns. -/

namespace Sys2Proof.Machine

/-! ### What a transaction does to the environment -/

section Env

variable (s : State)

@[simp] theorem prioInsert_env (f : List Byte) (cap : Bool) (mask : Word32) :
    (s.prioInsert f cap mask).2.env = s.env := by
  rcases prioInsert_spec s f cap mask with ⟨-, e⟩ | ⟨-, e⟩ <;> simp [e, insertFrame_eq]

@[simp] theorem highCheck_env : s.highCheck.env = s.env := by
  rcases highCheck_spec s with ⟨-, e⟩ | ⟨-, e⟩ <;> simp [e]

@[simp] theorem evict_env : s.evict.env = s.env := by
  rcases evict_spec s with ⟨-, e⟩ | ⟨-, e⟩ <;> simp [e]

@[simp] theorem inAppend_env (d : Byte) : (s.inAppend d).env = s.env := by simp [State.inAppend]

@[simp] theorem filterStep_env (rx : Byte) : (s.filterStep rx).env = s.env := by
  rcases filterStep_spec s rx with ⟨d, -, e⟩ | ⟨-, e⟩ <;> simp [e]

@[simp] theorem receive_env (rx : Byte) : (s.receive rx).env = s.env := by
  rcases receive_spec s rx with ⟨-, e⟩ | ⟨-, e⟩ <;> simp [e]

@[simp] theorem clearPending_env (src : Source) : (s.clearPending src).env = s.env := by cases src <;> rfl

@[simp] theorem clearPending_txByte (src : Source) : (s.clearPending src).txByte = s.txByte := by cases src <;> rfl

@[simp] theorem drawPeerByte_turns : s.drawPeerByte.2.env.turns = s.env.turns := by
  rcases drawPeerByte_spec s with ⟨b, bs, -, e⟩ | ⟨-, e⟩ <;> rw [e]

@[simp] theorem drawPeerByte_wire : s.drawPeerByte.2.env.wire = s.env.wire := by
  obtain ⟨e, he, -, hw, -⟩ := drawPeerByte_state s
  rw [he]
  exact hw

/-- R221, R222: a transaction sends the one byte of its step 1. -/
@[simp] theorem transaction_wire (src : Source) :
    (s.transaction src).env.wire = s.env.wire ++ [s.txByte] := by
  simp [State.transaction, State.beginTransaction]

@[simp] theorem transaction_turns (src : Source) : (s.transaction src).env.turns = s.env.turns := by
  simp [State.transaction, State.beginTransaction]

end Env

/-! ### One turn without a command segment -/

/-- From `s` to `u` nothing was sent, the turns to come are the same, the core is as open and its clock source as
enabled, and a clock that was armed or pending still is; a pending one still pends. -/
structure KeepsClock (s u : State) : Prop where
  wire : u.env.wire = s.env.wire
  turns : u.env.turns = s.env.turns
  timerId : u.timerId = s.timerId
  ieClk : u.ieClk = s.ieClk
  pend : s.clkPend = true → u.clkPend = true
  live : s.clkArmed = true ∨ s.clkPend = true → u.clkArmed = true ∨ u.clkPend = true

theorem KeepsClock.refl (s : State) : KeepsClock s s := ⟨rfl, rfl, rfl, rfl, id, id⟩

/-- R276: a timer event of an enabled clock moves the clock from armed to pending. -/
theorem timerEvent_keepsClock (s : State) : KeepsClock s s.timerEvent := by
  unfold State.timerEvent
  split
  · exact ⟨rfl, rfl, rfl, rfl, fun _ => rfl, fun _ => .inr rfl⟩
  · exact .refl s

theorem linkChangeEvent_keepsClock (s : State) : KeepsClock s s.linkChangeEvent := by
  unfold State.linkChangeEvent
  split
  · exact ⟨rfl, rfl, rfl, rfl, id, id⟩
  · exact .refl s

/-- R276: an open core's live and enabled clock is pending after the timer's turn. -/
theorem timerEvent_clkPend {s : State} (ho : s.timerId ≠ none) (hi : s.ieClk = true)
    (hl : s.clkArmed = true ∨ s.clkPend = true) : s.timerEvent.clkPend = true := by
  rcases hl with ha | hp
  · simp [State.timerEvent, State.timerDue, isOpen_iff.2 ho, ha, hi]
  · exact (timerEvent_keepsClock s).pend hp

/-- R220: an agent's turn but the Command unit's is a transaction or keeps the clock. -/
theorem takeTurn_of_ne_command {turn : Turn} (h : turn ≠ .command) (s : State) :
    (∃ src, takeTurn turn s = .next (s.transaction src)) ∨ ∃ u, takeTurn turn s = .next u ∧ KeepsClock s u := by
  cases turn with
  | command => exact absurd rfl h
  | exchange src =>
    rw [takeTurn, exchangeTurn_spec]
    split
    · exact .inl ⟨src, rfl⟩
    · exact .inr ⟨s, rfl, .refl s⟩
  | hostRead => exact .inr ⟨_, rfl, rfl, rfl, rfl, rfl, id, id⟩
  | timer => exact .inr ⟨_, rfl, timerEvent_keepsClock s⟩
  | linkChange => exact .inr ⟨_, rfl, linkChangeEvent_keepsClock s⟩
  | linkReset => exact .inr ⟨_, rfl, .refl s⟩
  | pulse => exact .inr ⟨_, rfl, rfl, rfl, rfl, rfl, id, id⟩

/-! ### Runs along a list of turns -/

theorem run_succ_of_next {M : Host.Core} {s u : M.State} (h : M.step s = .next u) (k : Nat) :
    M.run (k + 1) s = M.run k u := by simp [Host.Core.run, h]

/-- A run goes on from where its first steps lead. -/
theorem run_add {M : Host.Core} {a : Nat} (b : Nat) :
    ∀ {s u : M.State}, M.run a s = .next u → M.run (a + b) s = M.run b u := by
  induction a with
  | zero =>
    intro s u h
    cases h
    rw [Nat.zero_add]
  | succ a ih =>
    intro s u h
    cases hs : M.step s with
    | next v =>
      rw [run_succ_of_next hs] at h
      rw [Nat.succ_add, run_succ_of_next hs, ih h]
    | fault r => simp [Host.Core.run, hs] at h
    | refused r => simp [Host.Core.run, hs] at h

/-- The turns of `ts`, whatever follows them, lead from every state with `P` to a state with `Q`. -/
def TurnsLead (ts : List Turn) (P Q : State → Prop) : Prop :=
  ∀ (s : State) (rest : List Turn), s.env.turns = ts ++ rest → P s →
    ∃ u : State, Host.Core.run Sys2Proof.core ts.length s = .next u ∧ u.env.turns = rest ∧ Q u

theorem TurnsLead.append {ts us : List Turn} {P Q R : State → Prop} (h : TurnsLead ts P Q)
    (h' : TurnsLead us Q R) : TurnsLead (ts ++ us) P R := by
  intro s rest hs hp
  obtain ⟨u, hu, htu, hq⟩ := h s (us ++ rest) (by rw [hs, List.append_assoc]) hp
  obtain ⟨v, hv, htv, hr⟩ := h' u rest htu hq
  refine ⟨v, ?_, htv, hr⟩
  rw [List.length_append, run_add _ hu, hv]

/-- The state with these turns to come. -/
def State.withTurns (s : State) (ts : List Turn) : State := { s with env := { s.env with turns := ts } }

/-- R12: a placed turn is the one taken. -/
theorem step_of_turns {s : State} {turn : Turn} {ts : List Turn} (h : s.env.turns = turn :: ts) :
    step s = takeTurn turn (s.withTurns ts) := by simp [step, State.drawTurn, h, State.withTurns]

theorem TurnsLead.single {turn : Turn} {P Q : State → Prop}
    (h : ∀ s ts, P s → ∃ u : State, takeTurn turn (s.withTurns ts) = .next u ∧ u.env.turns = ts ∧ Q u) :
    TurnsLead [turn] P Q := by
  intro s rest hs hp
  obtain ⟨u, hu, htu, hq⟩ := h s rest hp
  have hstep : Sys2Proof.core.step s = .next u := (step_of_turns hs).trans hu
  exact ⟨u, by rw [List.length_singleton, run_succ_of_next hstep]; rfl, htu, hq⟩

/-- A property that every turn of the list keeps holds after the list. -/
theorem TurnsLead.of_forall {P : State → Prop} {ts : List Turn} (h : ∀ turn ∈ ts, TurnsLead [turn] P P) :
    TurnsLead ts P P := by
  induction ts with
  | nil => exact fun s rest hs hp => ⟨s, rfl, hs, hp⟩
  | cons turn ts ih =>
    exact (h turn List.mem_cons_self).append (ih fun t ht => h t (List.mem_cons_of_mem _ ht))

/-! ### The clock of an open core -/

/-- More than `n` bytes have been sent. -/
def State.SentBeyond (n : Nat) (s : State) : Prop := n < s.env.wire.length

/-- R228: the clock of an open core will bring a transaction once the timer has had its turn. -/
def State.ClockLive (s : State) : Prop :=
  s.timerId ≠ none ∧ s.ieClk = true ∧ (s.clkArmed = true ∨ s.clkPend = true)

/-- R46, R220: the clock of an open core waits for its transaction. -/
def State.ClockPending (s : State) : Prop := s.timerId ≠ none ∧ s.clkPend = true

/-- `n` bytes have been sent, and one more or `P` holds. -/
def SentOr (n : Nat) (P : State → Prop) (s : State) : Prop := n ≤ s.env.wire.length ∧ (s.SentBeyond n ∨ P s)

theorem KeepsClock.clockLive {s u : State} (h : KeepsClock s u) (hs : s.ClockLive) : u.ClockLive := by
  obtain ⟨ho, hi, hl⟩ := hs
  exact ⟨by rwa [h.timerId], by rwa [h.ieClk], h.live hl⟩

theorem KeepsClock.clockPending {s u : State} (h : KeepsClock s u) (hs : s.ClockPending) : u.ClockPending := by
  obtain ⟨ho, hp⟩ := hs
  exact ⟨by rwa [h.timerId], h.pend hp⟩

/-- R222: after a transaction one more byte has been sent. -/
theorem transaction_sentBeyond {n : Nat} {s : State} (h : n ≤ s.env.wire.length) (src : Source) :
    (s.transaction src).SentBeyond n := by
  simp only [State.SentBeyond, transaction_wire, List.length_append, List.length_singleton]
  omega

/-- A turn that is not the Command unit's sends a byte or keeps what keeping the clock keeps. -/
theorem turnsLead_sentOr {n : Nat} {P : State → Prop} {turn : Turn} (hc : turn ≠ .command)
    (hturns : ∀ s ts, P s → P (s.withTurns ts)) (hkeep : ∀ s u, KeepsClock s u → P s → P u) :
    TurnsLead [turn] (SentOr n P) (SentOr n P) := by
  refine .single fun s ts ⟨hn, hs⟩ => ?_
  rcases takeTurn_of_ne_command hc (s.withTurns ts) with ⟨src, ht⟩ | ⟨u, ht, hu⟩
  · have hsent : ((s.withTurns ts).transaction src).SentBeyond n := transaction_sentBeyond (s := s.withTurns ts) hn src
    exact ⟨_, ht, transaction_turns _ src, Nat.le_of_lt hsent, .inl hsent⟩
  · have hw : u.env.wire = s.env.wire := hu.wire
    refine ⟨u, ht, hu.turns, by rwa [hw], hs.imp (fun hsent => ?_) fun hp => hkeep _ u hu (hturns s ts hp)⟩
    rwa [State.SentBeyond, hw]

theorem turnsLead_clockLive {n : Nat} {turn : Turn} (hc : turn ≠ .command) :
    TurnsLead [turn] (SentOr n State.ClockLive) (SentOr n State.ClockLive) :=
  turnsLead_sentOr hc (fun _ _ h => h) fun _ _ h => h.clockLive

theorem turnsLead_clockPending {n : Nat} {turn : Turn} (hc : turn ≠ .command) :
    TurnsLead [turn] (SentOr n State.ClockPending) (SentOr n State.ClockPending) :=
  turnsLead_sentOr hc (fun _ _ h => h) fun _ _ h => h.clockPending

/-- R276: the timer's turn makes a live clock pending. -/
theorem turnsLead_timer {n : Nat} :
    TurnsLead [.timer] (SentOr n State.ClockLive) (SentOr n State.ClockPending) := by
  refine .single fun s ts ⟨hn, hs⟩ => ?_
  have hk := timerEvent_keepsClock (s.withTurns ts)
  have hw : (s.withTurns ts).timerEvent.env.wire = s.env.wire := hk.wire
  refine ⟨_, rfl, hk.turns, by rwa [hw], hs.imp (fun hsent => ?_) fun ⟨ho, hi, hl⟩ => ?_⟩
  · rwa [State.SentBeyond, hw]
  · exact ⟨by rwa [hk.timerId], timerEvent_clkPend ho hi hl⟩

/-- R220: the clock source's turn serves a pending clock. -/
theorem turnsLead_exchange {n : Nat} :
    TurnsLead [.exchange .clk] (SentOr n State.ClockPending) (State.SentBeyond n) := by
  refine .single fun s ts ⟨hn, hs⟩ => ?_
  rw [takeTurn, exchangeTurn_spec]
  split
  · exact ⟨_, rfl, transaction_turns _ .clk, transaction_sentBeyond (s := s.withTurns ts) hn .clk⟩
  · next hd =>
    refine ⟨_, rfl, rfl, hs.resolve_right fun ⟨ho, hp⟩ => hd ?_⟩
    have hopen : (s.withTurns ts).isOpen = true := isOpen_iff.2 ho
    have hpend : (s.withTurns ts).pending .clk = true := hp
    rw [State.exchangeDue, hopen, hpend]
    rfl

/-- Settles O51, in four stretches: the clock stays live, fires, stays pending, is served; or a byte was sent
before. -/
theorem armedClockLeadsToTransaction : Obligations.ArmedClockLeadsToTransaction := by
  unfold Obligations.ArmedClockLeadsToTransaction
  intro s before between after hinv ho ha hb hm hturns
  have hbefore := TurnsLead.of_forall fun turn ht =>
    turnsLead_clockLive (n := s.env.wire.length) (ne_of_mem_of_not_mem ht hb)
  have hbetween := TurnsLead.of_forall fun turn ht =>
    turnsLead_clockPending (n := s.env.wire.length) (ne_of_mem_of_not_mem ht hm)
  have hrun := ((hbefore.append turnsLead_timer).append hbetween).append turnsLead_exchange
  have hlive : s.ClockLive := ⟨ho, (hinv.opened ho).2.1, .inl ha⟩
  obtain ⟨t, ht, -, hsent⟩ := hrun s after (by simpa using hturns) ⟨Nat.le_refl _, .inr hlive⟩
  have hlen : (((before ++ [Turn.timer]) ++ between) ++ [Turn.exchange .clk]).length =
      before.length + between.length + 2 := by simp; omega
  exact ⟨t, hlen ▸ ht, hsent⟩

end Sys2Proof.Machine
end

section
/-! What the command-port decoder guarantees of a command it answers (R91 to R97). -/

namespace Sys2Proof

/-- R94, R97: a decoded command is assembled from a header and a body of the length the header asks for. -/
theorem decode_instr_spec {bs rest : List Byte} {i : Instr} (h : decode bs = .instr i rest) :
    ∃ (op : Op) (aux : Byte) (n : Word16) (body : List Byte),
      i = op.instr aux n body ∧ body.length = op.format.bodyLength n := by
  rcases bs with _ | ⟨op, _ | ⟨aux, _ | ⟨n1, _ | ⟨n0, tail⟩⟩⟩⟩
  on_goal 5 =>
    rcases decode_spec op aux n1 n0 tail with
      ⟨-, e⟩ | ⟨o, -, ⟨-, e⟩ | ⟨body, more, -, hl, ⟨-, e⟩ | ⟨-, e⟩⟩⟩ <;> rw [e] at h <;> cases h
    exact ⟨o, aux, be16 n1 n0, body, rfl, hl⟩
  all_goals rw [decode_short (by simp)] at h; cases h

/-- R96, R114: only commands come from the command port. -/
theorem isCommand_of_decode {bs rest : List Byte} {i : Instr} (h : decode bs = .instr i rest) :
    i.isCommand = true := by
  obtain ⟨op, aux, n, body, rfl, -⟩ := decode_instr_spec h
  cases op <;> rfl

/-- R94: the payload of a decoded WRITEB is no longer than the field N can say. -/
theorem length_le_of_decode_writeb {bs rest data : List Byte} (h : decode bs = .instr (.writeb data) rest) :
    data.length ≤ 65535 := by
  obtain ⟨op, aux, n, body, hi, hl⟩ := decode_instr_spec h
  cases op <;> cases hi
  have hn : data.length = n.toNat := by simpa [Op.format, Format.bodyLength, Format.hasX, Format.hasPayload] using hl
  omega

end Sys2Proof
end

section
/-! Who writes ESC, TIMER_ID and CLK_ARMED (R39, R40, R43). The buffers, the watermarks and the commands that work on
them write none of the three; `step_control` lists the steps that write one. -/

namespace Sys2Proof.Machine

/-- The escape state (R39), the timer (R40) and the clock (R43). -/
structure Control where
  esc : Bool
  timerId : Option TimerId
  clkArmed : Bool

def State.control (s : State) : Control := ⟨s.esc, s.timerId, s.clkArmed⟩

/-- R201, R241: the clock is armed. -/
def Control.armed (k : Control) : Control := { k with clkArmed := true }

/-- R276: the clock is disarmed. -/
def Control.disarmed (k : Control) : Control := { k with clkArmed := false }

/-- R240, R242: the core is closed. -/
def Control.closed (k : Control) : Control := { k with timerId := none, clkArmed := false }

/-! ### Each operation -/

section Ops

variable (s : State)

@[simp] theorem finish_control (st : Status) (v : Word32) (d : List Byte) :
    (s.finish st v d).control = s.control := rfl
@[simp] theorem await_control (c : CurCmd) : (s.await c).control = s.control := rfl
@[simp] theorem compact_control : s.compact.control = s.control := rfl
@[simp] theorem push_control (e : List Byte) : (s.push e).control = s.control := rfl
@[simp] theorem demote_control : s.demote.control = s.control.armed := rfl
@[simp] theorem dropInbound_control (k : Nat) : (s.dropInbound k).control = s.control := rfl
@[simp] theorem openCore_control (id : TimerId) : (s.openCore id).control = ⟨false, some id, true⟩ := rfl
@[simp] theorem closeCore_control : s.closeCore.control = s.control.closed := rfl
@[simp] theorem setRate_control (rate : Word32) : (s.setRate rate).control = s.control := rfl
@[simp] theorem clearTick_control : s.clearTick.control = s.control := rfl
@[simp] theorem clearTimeUnits_control : s.clearTimeUnits.control = s.control := rfl
@[simp] theorem withHostBytes_control (rest : List Byte) : (s.withHostBytes rest).control = s.control := rfl
@[simp] theorem pulseEvent_control : s.pulseEvent.control = s.control := rfl
@[simp] theorem hostReadEvent_control : s.hostReadEvent.control = s.control := rfl

@[simp] theorem drawTurn_control : s.drawTurn.2.control = s.control := by
  obtain ⟨e, he, -⟩ := drawTurn_state s
  rw [he]
  rfl

@[simp] theorem drawProbe_control : s.drawProbe.2.control = s.control := by
  obtain ⟨e, he, -⟩ := drawProbe_state s
  rw [he]
  rfl

@[simp] theorem writeCore_control (src : List Byte) : (s.writeCore src).2.control = s.control := by
  rw [State.writeCore, (writeLoop_spec src s.compactIfIdle).2.1, push_control]
  rcases compactIfIdle_spec s with ⟨-, e⟩ | ⟨-, e⟩ <;> simp [e]

@[simp] theorem prioInsert_control (f : List Byte) (cap : Bool) (mask : Word32) :
    (s.prioInsert f cap mask).2.control = s.control := by
  rcases prioInsert_spec s f cap mask with ⟨-, e⟩ | ⟨-, e⟩ <;> rw [e]
  rw [insertFrame_eq]
  rfl

@[simp] theorem highCheck_control : s.highCheck.control = s.control := by
  rcases highCheck_spec s with ⟨-, e⟩ | ⟨-, e⟩ <;> rw [e]
  exact prioInsert_control s highWaterFrame false 0

@[simp] theorem lowCheck_control : s.lowCheck.control = s.control := by
  rcases lowCheck_spec s with ⟨-, e⟩ | ⟨-, e⟩ <;> rw [e]
  exact prioInsert_control s lowWaterFrame false 0

@[simp] theorem inAppend_control (d : Byte) : (s.inAppend d).control = s.control := by
  rw [State.inAppend, highCheck_control]
  rcases evict_spec s with ⟨-, e⟩ | ⟨-, e⟩ <;> rw [e] <;> rfl

@[simp] theorem startRoundTrip_control : s.startRoundTrip.control = s.control :=
  prioInsert_control s versionFrame true s.cfg.verMask

/-- R240: the loop goes on as it is, or gives up and closes. -/
theorem initLoop_control (a : Nat) :
    (s.initLoop a).control = s.control ∨
    ((s.initLoop a).control = s.control.closed ∧
      (s.initLoop a).env.response = responseBytes .deviceNotResponding 0 []) := by
  unfold State.initLoop
  split
  · exact .inr ⟨closeCore_control s, rfl⟩
  · exact .inl (by simp)

theorem endRoundTrip_control :
    s.endRoundTrip.control = s.control ∨ s.endRoundTrip.control = s.control.armed := by
  unfold State.endRoundTrip
  split
  · exact .inr (demote_control s)
  · exact .inl rfl

theorem endRoundTrip_control_closed : s.endRoundTrip.control.closed = s.control.closed := by
  rcases endRoundTrip_control s with e | e <;> rw [e]
  rfl

theorem awaitpPass_control (t : Nat) :
    (s.awaitpPass t).control = s.control ∨ (s.awaitpPass t).control = s.control.armed := by
  unfold State.awaitpPass
  split_ifs
  · exact .inr (demote_control s)
  · exact .inl rfl
  · exact .inl rfl

/-- R201: no time-out has passed when the count of time-units was just cleared. -/
theorem clearTimeUnits_awaitpPass_control (t : Nat) : (s.clearTimeUnits.awaitpPass t).control = s.control := by
  have hto : ¬ s.clearTimeUnits.timedOut t = true := by
    rw [timedOut_iff, clearTimeUnits_tuCount]
    exact fun ⟨h0, hle⟩ => h0 (Nat.le_zero.1 hle)
  rw [State.awaitpPass, if_neg hto]
  split <;> exact clearTimeUnits_control s

end Ops

/-! ### The Command unit -/

/-- R240, R241: what a later segment of INIT leaves: the core as it was but for an armed clock, or closed by an attempt
that failed. -/
theorem resumeInit_control (s : State) (a : Nat) :
    (s.resumeInit a).control = s.control ∨ (s.resumeInit a).control = s.control.armed ∨
    ((s.resumeInit a).control = s.control.closed ∧
      (s.resumeInit a).env.response = responseBytes .deviceNotResponding 0 []) := by
  simp only [State.resumeInit]
  split_ifs
  · exact .inr (.inr ⟨endRoundTrip_control_closed s, rfl⟩)
  · rcases initLoop_control s.endRoundTrip a with h | ⟨h, hr⟩ <;> rw [h]
    · exact (endRoundTrip_control s).imp_right .inl
    · exact .inr (.inr ⟨endRoundTrip_control_closed s, hr⟩)
  · exact (endRoundTrip_control s).imp_right .inl

/-- R19: a later segment leaves the three as they were but for an armed clock, or is INIT's and closes the core. -/
theorem resumeCommand_control (s : State) (c : CurCmd) :
    (s.resumeCommand c).control = s.control ∨ (s.resumeCommand c).control = s.control.armed ∨
    ∃ a, c = .init a ∧ (s.resumeCommand c).control = s.control.closed ∧
      (s.resumeCommand c).env.response = responseBytes .deviceNotResponding 0 [] := by
  unfold State.resumeCommand
  split
  · cases c with
    | wait => exact .inl rfl
    | writeb rem total =>
      refine .inl ?_
      simp only [State.resumeSegment, State.writebPass]
      split <;> simp
    | flush => exact .inl rfl
    | awaitp t => exact (awaitpPass_control s t).imp_right .inl
    | init a => exact (resumeInit_control s a).imp_right (Or.imp_right fun h => ⟨a, rfl, h⟩)
  · exact .inl rfl

theorem whenOpen_control {s : State} {run : State → State} (h : (run s).control = s.control) :
    (s.whenOpen run).control = s.control := by
  rcases whenOpen_spec s run with ⟨-, e⟩ | ⟨-, e⟩ <;> rw [e]
  · exact h
  · rfl

/-- R240: INIT's first segment opens a closed core, and closes it again if no attempt is allowed. -/
theorem runInit_control (s : State) :
    s.runInit.control = s.control ∨
    (s.timerId = none ∧ ∃ id, s.runInit.control = ⟨false, some id, true⟩ ∨ s.runInit.control = ⟨false, none, false⟩) := by
  simp only [State.runInit]
  split
  · exact .inl rfl
  · next ho =>
    split
    · exact .inl (by simp)
    · next timer _ =>
      have hclosed : s.timerId = none := by rwa [isOpen_iff, not_not] at ho
      have hloop := initLoop_control (s.drawProbe.2.openCore timer) 0
      rw [openCore_control] at hloop
      exact .inr ⟨hclosed, timer, hloop.imp_right And.left⟩

/-- R84: what the first segment of a command does to the three. -/
theorem exec_control {i : Instr} {s t : State} (hi : i.isCommand = true) (h : exec i s = .next t) :
    t.control = s.control ∨ (i = .shutdown ∧ t.control = s.control.closed) ∨
    (i = .init ∧ s.timerId = none ∧
      ∃ id, t.control = ⟨false, some id, true⟩ ∨ t.control = ⟨false, none, false⟩) := by
  cases i <;> cases hi <;> cases h
  case init => exact (runInit_control s).imp_right fun h => .inr ⟨rfl, h⟩
  case shutdown =>
    split
    · exact .inr (.inl ⟨rfl, closeCore_control s⟩)
    · exact .inl rfl
  case rdreg reg =>
    refine .inl ?_
    split <;> rfl
  all_goals refine .inl (whenOpen_control ?_)
  case setrate rate =>
    unfold State.runSetrate
    split <;> simp
  case writeb data =>
    simp only [State.writebPass]
    split <;> simp
  case flush =>
    unfold State.runFlush
    split <;> rfl
  case readline delim n =>
    unfold State.runReadline
    split <;> simp
  case unread data =>
    unfold State.runUnread
    split <;> rfl
  case awaitp t => exact clearTimeUnits_awaitpPass_control s t.toNat
  case wait | write | read | avail | enqp | rdreply => simp [State.runWrite, State.runRead, State.runEnqp]

/-! ### The transaction -/

/-- R223, R224: the received byte goes to the frame, whose mask may disarm the clock, or through the filter, which
leaves some escape state. -/
theorem receive_control (s : State) (rx : Byte) :
    (s.inFlight = true ∧ (s.receive rx).control = if s.suspends then s.control.disarmed else s.control) ∨
    (s.inFlight = false ∧ ∃ e, (s.receive rx).control = { s.control with esc := e }) := by
  rcases receive_spec s rx with ⟨hi, e⟩ | ⟨hi, e⟩ <;> rw [e]
  · refine .inl ⟨hi, ?_⟩
    by_cases hs : s.suspends = true <;> simp [State.control, hs, Control.disarmed]
  · refine .inr ⟨hi, (unescape rx s.esc).2, ?_⟩
    rcases filterStep_spec s rx with ⟨d, -, e⟩ | ⟨-, e⟩ <;> rw [e]
    · exact inAppend_control _ d
    · rfl

/-- R220 to R224: a transaction arms the clock; in a frame the suspend mask may disarm it again, outside one the escape
state may change. -/
theorem transaction_control (s : State) (src : Source) :
    (s.inFlight = true ∧
      (s.transaction src).control = if s.suspends then s.control.disarmed else s.control.armed) ∨
    (s.inFlight = false ∧ ∃ e, (s.transaction src).control = { s.control.armed with esc := e }) := by
  obtain ⟨e, he, -⟩ := drawPeerByte_state (s.clearPending src).transmit
  have hb : (s.beginTransaction src).2 = { (s.clearPending src).transmit with clkArmed := true, env := e } := by
    simp only [State.beginTransaction, he]
    rfl
  have hk : (s.beginTransaction src).2.control = s.control.armed := by rw [hb]; cases src <;> rfl
  have hi : (s.beginTransaction src).2.inFlight = s.inFlight := by rw [hb]; cases src <;> rfl
  have hs : (s.beginTransaction src).2.suspends = s.suspends := by rw [hb]; cases src <;> rfl
  have hr := receive_control (s.beginTransaction src).2 (s.beginTransaction src).1
  rw [hk, hi, hs] at hr
  exact hr

/-! ### The step -/

/-- The ways a step can go, as far as the escape state, the timer and the clock are concerned. -/
inductive ControlStep (s t : State) : Prop where
  /-- none of the three is written -/
  | kept (control : t.control = s.control)
  /-- R276: the timer event -/
  | fired (turn : s.drawTurn.1 = .timer) (pending : t.clkPend = true) (control : t.control = s.control.disarmed)
  /-- R223: a transaction in a frame -/
  | inFrame (src : Source) (turn : s.drawTurn.1 = .exchange src) (flight : s.pSent < s.pLen)
      (control : t.control = if s.suspends then s.control.disarmed else s.control.armed)
  /-- R224: a transaction outside any frame -/
  | filtered (src : Source) (turn : s.drawTurn.1 = .exchange src) (due : s.exchangeDue src = true)
      (noFlight : ¬ s.pSent < s.pLen) (e : Bool) (control : t.control = { s.control.armed with esc := e })
  /-- R201, R241: a frame timed out -/
  | demoted (control : t.control = s.control.armed)
  /-- R242 -/
  | shutdown (takes : s.Takes .shutdown) (control : t.control = s.control.closed)
  /-- R240: a waiting INIT fails -/
  | initFailed (a : Nat) (continues : s.Continues (.init a))
      (response : t.env.response = responseBytes .deviceNotResponding 0 []) (control : t.control = s.control.closed)
  /-- R240: INIT opens a closed core, and with no attempt allowed closes it again -/
  | initOpened (takes : s.Takes .init) (wasClosed : s.timerId = none) (id : TimerId)
      (control : t.control = ⟨false, some id, true⟩ ∨ t.control = ⟨false, none, false⟩)

theorem timerEvent_control (s : State) :
    s.timerEvent.control = s.control ∨ (s.timerEvent.clkPend = true ∧ s.timerEvent.control = s.control.disarmed) := by
  unfold State.timerEvent
  split
  · exact .inr ⟨rfl, rfl⟩
  · exact .inl rfl

theorem linkChangeEvent_control (s : State) : s.linkChangeEvent.control = s.control := by
  unfold State.linkChangeEvent
  split <;> rfl

theorem drawTurn_inFlight (s : State) : s.drawTurn.2.inFlight = s.inFlight := by
  obtain ⟨e, he, -⟩ := drawTurn_state s
  rw [he]
  rfl

theorem drawTurn_suspends (s : State) : s.drawTurn.2.suspends = s.suspends := by
  obtain ⟨e, he, -⟩ := drawTurn_state s
  rw [he]
  rfl

theorem drawTurn_timerId (s : State) : s.drawTurn.2.timerId = s.timerId :=
  congrArg Control.timerId (drawTurn_control s)

/-- Every step is one of these, by the ways a step can go (`step_spec`). -/
theorem step_control {s t : State} (h : step s = .next t) : ControlStep s t := by
  rcases step_spec h with ⟨-, rfl⟩ | ⟨ht, rfl⟩ | ⟨-, rfl⟩ | ⟨-, rfl⟩ | ⟨-, rfl⟩ |
    ⟨src, ht, ⟨hdue, rfl⟩ | ⟨-, rfl⟩⟩ | ⟨c, ht, hc, rfl⟩ |
    ⟨ht, hc, ⟨i, rest, hr, hdec, hx⟩ | ⟨why, rest, -, -, rfl⟩ | ⟨-, rfl⟩⟩
  · exact .kept (by simp)
  · rcases timerEvent_control s.drawTurn.2 with e | ⟨hp, e⟩ <;> rw [drawTurn_control] at e
    · exact .kept e
    · exact .fired ht hp e
  · exact .kept (by rw [linkChangeEvent_control, drawTurn_control])
  · exact .kept (by simp)
  · exact .kept (by simp)
  · rcases transaction_control s.drawTurn.2 src with ⟨hi, hk⟩ | ⟨hi, e, hk⟩ <;>
      rw [drawTurn_inFlight] at hi <;> rw [drawTurn_control] at hk
    · rw [drawTurn_suspends] at hk
      exact .inFrame src ht (inFlight_iff.1 hi) hk
    · refine .filtered src ht hdue (fun hf => ?_) e hk
      rw [inFlight_iff.2 hf] at hi
      cases hi
  · exact .kept (by simp)
  · rcases resumeCommand_control s.drawTurn.2 c with hk | hk | ⟨a, rfl, hk, hresp⟩ <;> rw [drawTurn_control] at hk
    · exact .kept hk
    · exact .demoted hk
    · exact .initFailed a ⟨ht, hc⟩ hresp hk
  · have htakes : s.Takes i := ⟨ht, hc, hr, rest, hdec⟩
    rcases exec_control (isCommand_of_decode hdec) hx with hk | ⟨rfl, hk⟩ | ⟨rfl, hclosed, id, hk⟩
    · exact .kept (by rw [hk, withHostBytes_control, drawTurn_control])
    · exact .shutdown htakes (by rw [hk, withHostBytes_control, drawTurn_control])
    · exact .initOpened htakes (by rwa [withHostBytes_timerId, drawTurn_timerId] at hclosed) id hk
  · exact .kept (by simp)
  · exact .kept (by simp)

/-- Settles O19: of the steps that write ESC, the received byte's and INIT's. -/
theorem escapeStateOwnedByTheFilter : Obligations.EscapeStateOwnedByTheFilter := by
  unfold Obligations.EscapeStateOwnedByTheFilter
  intro s t h hne
  cases step_control h with
  | filtered src turn due noFlight e control => exact .inl ⟨src, turn, due, noFlight⟩
  | initOpened takes wasClosed id control =>
    exact .inr ⟨takes, wasClosed, control.elim (congrArg Control.esc) (congrArg Control.esc)⟩
  | inFrame src turn flight control =>
    refine absurd (congrArg Control.esc control) ?_
    split <;> exact hne
  | kept control | fired _ _ control | demoted control | shutdown _ control | initFailed _ _ _ control =>
    exact absurd (congrArg Control.esc control) hne

/-- Settles O21: of the steps that write TIMER_ID, SHUTDOWN's and a failing INIT's. -/
theorem onlyShutdownOrFailedInitCloses : Obligations.OnlyShutdownOrFailedInitCloses := by
  unfold Obligations.OnlyShutdownOrFailedInitCloses
  intro s t h hopen hclosed
  have hne : t.timerId ≠ s.timerId := fun e => hopen (e.symm.trans hclosed)
  cases step_control h with
  | shutdown takes control =>
    obtain ⟨turn, idle, -, decoded⟩ := takes
    exact ⟨turn, .inl ⟨idle, decoded⟩⟩
  | initFailed a continues response control =>
    obtain ⟨turn, waiting⟩ := continues
    exact ⟨turn, .inr ⟨a, waiting, response⟩⟩
  | initOpened takes wasClosed id control => exact absurd wasClosed hopen
  | inFrame src turn flight control =>
    refine absurd (congrArg Control.timerId control) ?_
    split <;> exact hne
  | kept control | fired _ _ control | filtered _ _ _ _ _ control | demoted control =>
    exact absurd (congrArg Control.timerId control) hne

/-- Settles O22: of the steps that write CLK_ARMED, those that can leave it clear. -/
theorem clockStopsOnlyByTimerMaskOrClosing : Obligations.ClockStopsOnlyByTimerMaskOrClosing := by
  unfold Obligations.ClockStopsOnlyByTimerMaskOrClosing
  intro s t h harmed hoff
  have hne : t.clkArmed ≠ true := by simp [hoff]
  cases step_control h with
  | fired turn pending control => exact .inl ⟨turn, pending⟩
  | inFrame src turn flight control =>
    by_cases hs : s.suspends = true
    · exact .inr (.inl ⟨⟨src, turn⟩, flight, suspends_iff.1 hs⟩)
    · rw [if_neg hs] at control
      exact absurd (congrArg Control.clkArmed control) hne
  | shutdown takes control | initFailed _ _ _ control => exact .inr (.inr (congrArg Control.timerId control))
  | initOpened takes wasClosed id control =>
    refine control.elim (fun hk => absurd (congrArg Control.clkArmed hk) hne) fun hk => ?_
    exact .inr (.inr (congrArg Control.timerId hk))
  | kept control => exact absurd ((congrArg Control.clkArmed control).trans harmed) hne
  | filtered _ _ _ _ _ control | demoted control => exact absurd (congrArg Control.clkArmed control) hne

end Sys2Proof.Machine
end

section
/-! Every step keeps the invariant (R53, R8, R37, R42, R44, R49): one lemma per command segment and per agent's
event, put together by the ways a step can go. -/

namespace Sys2Proof.Machine

/-! ### What the write path and the frames leave unchanged -/

section Frame

variable (s : State)

@[simp] theorem writeCore_timerId (src : List Byte) : (s.writeCore src).2.timerId = s.timerId :=
  congrArg Control.timerId (writeCore_control s src)

@[simp] theorem writeCore_env (src : List Byte) : (s.writeCore src).2.env = s.env := by
  rw [State.writeCore, (writeLoop_spec src s.compactIfIdle).2.1]
  rcases compactIfIdle_spec s with ⟨-, e⟩ | ⟨-, e⟩ <;> simp [e]

@[simp] theorem prioInsert_timerId (f : List Byte) (cap : Bool) (mask : Word32) :
    (s.prioInsert f cap mask).2.timerId = s.timerId :=
  congrArg Control.timerId (prioInsert_control s f cap mask)

@[simp] theorem endRoundTrip_timerId : s.endRoundTrip.timerId = s.timerId := by
  unfold State.endRoundTrip
  split <;> rfl

@[simp] theorem endRoundTrip_env : s.endRoundTrip.env = s.env := by
  unfold State.endRoundTrip
  split <;> rfl

end Frame

namespace State.Inv

variable {s : State}

/-! ### The commands that need an open core -/

theorem whenOpen (h : s.Inv) {run : State → State} (hrun : s.timerId ≠ none → (run s).Inv) :
    (s.whenOpen run).Inv := by
  rcases whenOpen_spec s run with ⟨ho, e⟩ | ⟨-, e⟩ <;> rw [e]
  · exact hrun (isOpen_iff.1 ho)
  · exact h.finish _ _ _

theorem writeCore (h : s.Inv) (src : List Byte) : (s.writeCore src).2.Inv := h.compactIfIdle.writeLoop src

theorem runRead (h : s.Inv) (n : Nat) : (s.runRead n).Inv := (h.dropInbound _).lowCheck.finish _ _ _

theorem runReadline (h : s.Inv) (delim : Byte) (n : Nat) : (s.runReadline delim n).Inv := by
  unfold State.runReadline
  split
  · exact (h.dropInbound _).lowCheck.finish _ _ _
  · exact h.lowCheck.finish _ _ _

theorem runUnread (h : s.Inv) (data : List Byte) : (s.runUnread data).Inv := by
  unfold State.runUnread
  split
  · exact h.finish _ _ _
  · exact (h.setInbound (by simp; omega)).finish _ _ _

theorem runSetrate (h : s.Inv) (rate : Word32) : (s.runSetrate rate).Inv := by
  unfold State.runSetrate
  split
  · exact h.finish _ _ _
  · have hset : (s.setRate rate).Inv := { h with }
    exact hset.finish _ _ _

theorem runWrite (h : s.Inv) (data : List Byte) : (s.runWrite data).Inv := (h.writeCore data).finish _ _ _

theorem runEnqp (h : s.Inv) (cap : Bool) (mask : Word32) (frame : List Byte) : (s.runEnqp cap mask frame).Inv :=
  (h.prioInsert frame cap mask).finish _ _ _

/-- R174: what WRITEB still waits with is part of the one payload it began with. -/
theorem writebPass (h : s.Inv) (ho : s.timerId ≠ none) (hr : s.env.response = []) {rem : List Byte} {total : Nat}
    (hl : rem.length + total ≤ 65535) : (s.writebPass rem total).Inv := by
  have hw := h.writeCore rem
  have hk : (s.writeCore rem).1 ≤ rem.length := (writeLoop_spec rem s.compactIfIdle).1
  simp only [State.writebPass]
  split
  · exact hw.finish _ _ _
  · next hrem =>
    have hclear : (s.writeCore rem).2.clearTick.Inv := { hw with }
    refine hclear.await (by simpa using ho) (by simpa using hr) ⟨hrem, ?_⟩
    rw [List.length_drop]
    omega

theorem runFlush (h : s.Inv) (ho : s.timerId ≠ none) (hr : s.env.response = []) : s.runFlush.Inv := by
  unfold State.runFlush
  split
  · exact h.finish _ _ _
  · exact h.await ho hr trivial

theorem awaitpPass (h : s.Inv) (ho : s.timerId ≠ none) (hr : s.env.response = []) {t : Nat} (ht : t ≤ 65535) :
    (s.awaitpPass t).Inv := by
  unfold State.awaitpPass
  split
  · next hi =>
    split
    · exact (h.demote ho hi).finish _ _ _
    · exact h.await ho hr ht
  · exact h.finish _ _ _

/-! ### INIT -/

/-- R240: INIT waits only in an attempt the budget admits. -/
theorem initLoop (h : s.Inv) (ho : s.timerId ≠ none) (hr : s.env.response = []) {a : Nat}
    (ha : a ≤ s.cfg.initRetries) : (s.initLoop a).Inv := by
  unfold State.initLoop
  split
  · exact h.closeCore_finish _
  · have hstart : s.startRoundTrip.Inv := { h.prioInsert versionFrame true s.cfg.verMask with }
    have hlegal : (CurCmd.init (a + 1)).Legal s.startRoundTrip.cfg := by
      rw [startRoundTrip_cfg]
      exact ⟨by omega, by omega⟩
    exact hstart.await (by simpa [State.startRoundTrip] using ho) (by simpa [State.startRoundTrip] using hr) hlegal

theorem endRoundTrip (h : s.Inv) (ho : s.timerId ≠ none) : s.endRoundTrip.Inv := by
  unfold State.endRoundTrip
  split
  · next hi => exact h.demote ho hi
  · exact h

theorem resumeInit (h : s.Inv) (ho : s.timerId ≠ none) (hr : s.env.response = []) {a : Nat}
    (ha : a ≤ s.cfg.initRetries) : (s.resumeInit a).Inv := by
  have he := h.endRoundTrip ho
  simp only [State.resumeInit]
  split_ifs
  · exact he.closeCore_finish _
  · exact he.initLoop (by simpa using ho) (by simpa using hr) (by simpa using ha)
  · have hv : State.Inv { s.endRoundTrip with version := s.endRoundTrip.rpl.getD 2 0 } := { he with }
    exact hv.finish _ _ _

theorem runInit (h : s.Inv) (hc : s.curCmd = none) (hr : s.env.response = []) : s.runInit.Inv := by
  obtain ⟨e, he, her⟩ := drawProbe_state s
  have hp : s.drawProbe.2.Inv := by
    rw [he]
    exact h.setEnv e her.trans
  have hpc : s.drawProbe.2.curCmd = none := by rw [he]; exact hc
  have hpr : s.drawProbe.2.env.response = [] := by rw [he]; exact her.trans hr
  simp only [State.runInit]
  split
  · exact h.finish _ _ _
  · split
    · exact hp.finish _ _ _
    · next id _ => exact (hp.openCore id hpc).initLoop (by simp) hpr (Nat.zero_le _)

/-! ### The Command unit -/

/-- R84: the first segment of a command from the port, the Command unit idle and its last response read. -/
theorem exec (h : s.Inv) (hc : s.curCmd = none) (hr : s.env.response = []) {i : Instr} (hi : i.isCommand = true)
    (hw : ∀ data, i = .writeb data → data.length ≤ 65535) {t : State} (ht : exec i s = .next t) : t.Inv := by
  cases i <;> cases hi <;> cases ht
  case init => exact h.runInit hc hr
  case shutdown =>
    split
    · exact h.closeCore_finish _
    · exact h.finish _ _ _
  case rdreg reg => split <;> exact h.finish _ _ _
  case setrate rate => exact h.whenOpen fun _ => h.runSetrate rate
  case wait =>
    have hclear : s.clearTick.Inv := { h with }
    exact h.whenOpen fun ho => hclear.await ho hr trivial
  case write data => exact h.whenOpen fun _ => h.runWrite data
  case writeb data => exact h.whenOpen fun ho => h.writebPass ho hr (hw data rfl)
  case flush => exact h.whenOpen fun ho => h.runFlush ho hr
  case read n => exact h.whenOpen fun _ => h.runRead _
  case readline delim n => exact h.whenOpen fun _ => h.runReadline _ _
  case avail => exact h.whenOpen fun _ => h.finish _ _ _
  case unread data => exact h.whenOpen fun _ => h.runUnread data
  case enqp cap mask frame => exact h.whenOpen fun _ => h.runEnqp cap mask frame
  case awaitp t =>
    have hclear : s.clearTimeUnits.Inv := { h with }
    exact h.whenOpen fun ho => hclear.awaitpPass ho hr (by have := t.isLt; omega)
  case rdreply n => exact h.whenOpen fun _ => h.finish _ _ _

/-- R19: a later segment; a command waits only in an open core and before its response. -/
theorem resumeCommand (h : s.Inv) {c : CurCmd} (hc : s.curCmd = some c) : (s.resumeCommand c).Inv := by
  obtain ⟨ho, hr⟩ := h.waiting (by simp [hc])
  have hl := h.legal c hc
  unfold State.resumeCommand
  split
  · cases c with
    | wait => exact h.finish _ _ _
    | writeb rem total => exact h.writebPass ho hr hl.2
    | flush => exact h.finish _ _ _
    | awaitp t => exact h.awaitpPass ho hr hl
    | init a => exact h.resumeInit ho hr hl.2
  · exact h

/-! ### The other agents -/

theorem timerEvent (h : s.Inv) : s.timerEvent.Inv := by
  unfold State.timerEvent
  split
  · next hd =>
    have ho : s.timerId ≠ none := by
      simp only [State.timerDue, Bool.and_eq_true] at hd
      exact isOpen_iff.1 hd.1.1
    exact { h with closed := fun hc => absurd hc ho }
  · exact h

/-- R277: the link-state-change source is enabled only in an open core. -/
theorem linkChangeEvent (h : s.Inv) : s.linkChangeEvent.Inv := by
  unfold State.linkChangeEvent
  split
  · next hi =>
    have ho : s.timerId ≠ none := fun hc => by
      obtain ⟨-, -, -, hlnk, -⟩ := h.closed hc
      rw [hlnk] at hi
      cases hi
    exact { h with closed := fun hc => absurd hc ho }
  · exact h

theorem pulseEvent (h : s.Inv) : s.pulseEvent.Inv := { h with }

theorem hostReadEvent (h : s.Inv) : s.hostReadEvent.Inv := h.setEnv _ fun _ => rfl

theorem drawTurn (h : s.Inv) : s.drawTurn.2.Inv := by
  obtain ⟨e, he, her, -⟩ := drawTurn_state s
  rw [he]
  exact h.setEnv e her.trans

theorem withHostBytes (h : s.Inv) (rest : List Byte) : (s.withHostBytes rest).Inv := h.setEnv _ id

end State.Inv

/-! ### Steps and runs -/

/-- A draw of a turn leaves the command waiting, the port and the response as they are. -/
theorem drawTurn_curCmd (s : State) : s.drawTurn.2.curCmd = s.curCmd := by
  obtain ⟨e, he, -⟩ := drawTurn_state s
  rw [he]

theorem drawTurn_response (s : State) : s.drawTurn.2.env.response = s.env.response := by
  obtain ⟨e, he, her, -⟩ := drawTurn_state s
  rw [he]
  exact her

/-- Settles O14, by the ways a step can go (`step_spec`). -/
theorem invariantKeptByStep : Obligations.InvariantKeptByStep := by
  unfold Obligations.InvariantKeptByStep
  intro s t hs h
  have hd := hs.drawTurn
  rcases step_spec h with ⟨-, rfl⟩ | ⟨-, rfl⟩ | ⟨-, rfl⟩ | ⟨-, rfl⟩ | ⟨-, rfl⟩ |
    ⟨src, -, ⟨hdue, rfl⟩ | ⟨-, rfl⟩⟩ | ⟨c, -, hc, rfl⟩ |
    ⟨-, hc, ⟨i, rest, hr, hdec, hx⟩ | ⟨why, rest, -, -, rfl⟩ | ⟨-, rfl⟩⟩
  · exact hd.hostReadEvent
  · exact hd.timerEvent
  · exact hd.linkChangeEvent
  · exact hd
  · exact hd.pulseEvent
  · have ho : s.timerId ≠ none := by
      simp only [State.exchangeDue, Bool.and_eq_true] at hdue
      exact isOpen_iff.1 hdue.1
    exact hd.transaction (by rwa [drawTurn_timerId]) src
  · exact hd
  · exact hd.resumeCommand ((drawTurn_curCmd s).trans hc)
  · refine (hd.withHostBytes rest).exec ((drawTurn_curCmd s).trans hc) ((drawTurn_response s).trans hr)
      (isCommand_of_decode hdec) (fun data hi => ?_) hx
    subst hi
    exact length_le_of_decode_writeb hdec
  · exact (hd.withHostBytes rest).finish _ _ _
  · exact hd

/-- R52, R53: power-on reset with parameters R8 admits. -/
theorem resetWith_inv {p : Params} (hp : p.Valid) (e : Env) : State.Inv { State.resetWith p with env := e } where
  params := hp
  inbound := Nat.zero_le _
  cursor := Nat.le_refl _
  outbound := Nat.zero_le _
  sent := Nat.le_refl _
  frame := Nat.zero_le _
  flight := fun hf => absurd hf (Nat.lt_irrefl _)
  closed := fun _ => ⟨rfl, rfl, rfl, rfl, rfl, rfl⟩
  opened := fun ho => absurd rfl ho
  reply := List.length_replicate
  waiting := fun hc => absurd rfl hc
  legal := fun _ hc => nomatch hc

/-- Settles O15: the parameters of 95_test_vectors.md meet R8's constraints by evaluation. -/
theorem invariantAtReset : Obligations.InvariantAtReset := by
  unfold Obligations.InvariantAtReset
  exact ⟨fun p e hp => resetWith_inv hp e, resetWith_inv (by constructor <;> decide) Env.empty⟩

/-- The invariant holds along every run: at reset, and kept by every step. -/
theorem Reachable.inv {s : State} (h : Reachable s) : s.Inv := by
  induction h with
  | reset p e valid => exact resetWith_inv valid e
  | step s t _ next ih => exact invariantKeptByStep s t ih next

/-- Settles O16: the five items are part of the invariant. -/
theorem reachableStatesAreWellKept : Obligations.ReachableStatesAreWellKept := by
  unfold Obligations.ReachableStatesAreWellKept
  intro s h
  have hs := h.inv
  exact ⟨hs.inbound, ⟨hs.cursor, hs.outbound⟩, ⟨hs.sent, hs.frame⟩, hs.flight, hs.closed⟩

/-- Settles O17: the table of R52 is the definition, with OUT_TOTAL written out. -/
theorem resetValues : Obligations.ResetValues := by
  unfold Obligations.ResetValues
  intro p
  rfl

end Sys2Proof.Machine
end

section
/-! The register view (R50, R51, R244): the bits of STATUS, the counts that fit their fields under the invariant, and
what RDREG answers. -/

namespace Sys2Proof.Machine

/-! ### STATUS -/

/-- The last bit written of a word assembled from bits is bit 0. -/
theorem getLsbD_append_ofBool_zero {w : Nat} (x : BitVec w) (b : Bool) : (x ++ BitVec.ofBool b).getLsbD 0 = b :=
  BitVec.getLsbD_concat_zero

theorem getLsbD_append_ofBool_succ {w : Nat} (x : BitVec w) (b : Bool) (i : Nat) :
    (x ++ BitVec.ofBool b).getLsbD (i + 1) = x.getLsbD i := BitVec.getLsbD_concat_succ

/-- Settles O58: the word is read bit by bit from its low end. -/
theorem statusRegisterBits : Obligations.StatusRegisterBits := by
  unfold Obligations.StatusRegisterBits
  intro s
  refine ⟨?_, ?_, ?_, ?_, ?_, ?_, ?_, ?_, ?_, ?_, ?_, ?_, fun i hi => ?_⟩
  on_goal 13 => obtain ⟨k, rfl⟩ := Nat.exists_eq_add_of_le' hi
  all_goals simp only [State.statusWord, getLsbD_append_ofBool_succ, getLsbD_append_ofBool_zero]
  · rfl
  · rfl
  · exact BitVec.getLsbD_zero

/-! ### The counts in their fields -/

/-- R51: a count that fits its field is read whole. -/
theorem lowField_of_lt {w n : Nat} (h : n < 2 ^ w) : lowField w n = BitVec.ofNat 32 n := by
  apply BitVec.eq_of_toNat_eq
  simp [lowField, Nat.mod_eq_of_lt h]

/-- R10: a mark is a percentage of IN_CAP. -/
theorem percent_le {cap pct : Nat} (h : pct ≤ 100) : cap * pct / 100 ≤ cap :=
  Nat.div_le_of_le_mul (by rw [Nat.mul_comm]; exact Nat.mul_le_mul_right cap h)

/-! ### RDREG -/

/-- R244 -/
theorem exec_rdreg_of_some {s : State} {r : Byte} {v : Word32} (h : s.registerView r = some v) :
    exec (.rdreg r) s = .next (s.finish .ok v []) := by
  have hx : exec (.rdreg r) s = execRdreg r s := rfl
  rw [hx, execRdreg, h]

/-- R244, R50 -/
theorem exec_rdreg_of_none {s : State} {r : Byte} (h : s.registerView r = none) :
    exec (.rdreg r) s = .next (s.finish .badCommand 0 []) := by
  have hx : exec (.rdreg r) s = execRdreg r s := rfl
  rw [hx, execRdreg, h, finishWith_eq]

/-- R50: the registers end at 0x11. -/
theorem registerView_reserved (s : State) {r : Byte} (h : 0x12 ≤ r.toNat) : s.registerView r = none := by
  unfold State.registerView
  split
  case h_19 => rfl
  all_goals omega

/-- A register that shows a count reads it whole when the count fits the field. -/
theorem exec_rdreg_count {s : State} {r : Byte} {w n : Nat} (h : s.registerView r = some (lowField w n))
    (hn : n < 2 ^ w) : exec (.rdreg r) s = .next (s.finish .ok (BitVec.ofNat 32 n) []) :=
  exec_rdreg_of_some (by rw [h, lowField_of_lt hn])

/-- Settles O57: the counts fit their fields by the invariant's bounds and R8's. -/
theorem rdregReadsTheView : Obligations.RdregReadsTheView := by
  unfold Obligations.RdregReadsTheView
  intro s hs
  have hin := hs.params.inCap_lt
  have htotal : s.cfg.outTotal < 2 ^ 16 := Nat.lt_succ_of_le hs.params.outTotal_le
  have hinb : s.inb.length < 2 ^ 24 := hs.inbound.trans_lt hin
  have hout : s.out.length < 2 ^ 16 := hs.outbound.trans_lt htotal
  have hcur : s.outCur < 2 ^ 16 := hs.cursor.trans_lt hout
  have hlen : s.pLen < 2 ^ 16 := hs.frame.trans_lt htotal
  have hsent : s.pSent < 2 ^ 16 := hs.sent.trans_lt hlen
  have hcap : s.cfg.outCap < 2 ^ 16 := (Nat.le_add_right _ _).trans_lt htotal
  have hevict : s.cfg.evictK < 2 ^ 24 := hs.params.evictK_le.trans_lt hin
  refine ⟨fun r hr => exec_rdreg_of_none (registerView_reserved s hr),
    exec_rdreg_of_some rfl, exec_rdreg_count rfl hinb, exec_rdreg_count rfl hout, exec_rdreg_count rfl hcur,
    exec_rdreg_count rfl hlen, exec_rdreg_count rfl hsent, exec_rdreg_of_some rfl,
    exec_rdreg_count rfl ((percent_le hs.params.hiPct_le).trans_lt hin),
    exec_rdreg_count rfl ((percent_le hs.params.loPct_le).trans_lt hin), exec_rdreg_of_some rfl, exec_rdreg_of_some rfl,
    exec_rdreg_of_some ?_, exec_rdreg_count rfl hin, exec_rdreg_count rfl hcap, exec_rdreg_count rfl htotal,
    exec_rdreg_count rfl hevict, fun hclosed => exec_rdreg_of_some ?_, fun id hid => ⟨id.nonzero, exec_rdreg_of_some ?_⟩,
    exec_rdreg_of_some ?_⟩
  · rw [BitVec.ofNat_toNat]
    rfl
  · have hv : s.registerView 0x10 = some (timerCode s.timerId) := rfl
    rw [hv, hclosed, timerCode]
  · have hv : s.registerView 0x10 = some (timerCode s.timerId) := rfl
    rw [hv, hid, timerCode]
  · rw [BitVec.ofNat_toNat]
    rfl

end Sys2Proof.Machine
end

section
/-! A turn of the idle Command unit (R84, R90): the step is the first segment of the command the port's bytes decode to,
and the segment ends at an `await` with no response or in `finish` with one (R18, R19, R100). -/

namespace Sys2Proof.Machine

/-! ### The command the step runs -/

theorem drawTurn_hostBytes (s : State) : s.drawTurn.2.env.hostBytes = s.env.hostBytes := by
  obtain ⟨e, he, -, heh, -⟩ := drawTurn_state s
  rw [he]
  exact heh

/-- Settles O7: a draw of a turn leaves the command, the response and the port's bytes as they are. -/
theorem stepRunsTheDecodedCommand : Obligations.StepRunsTheDecodedCommand := by
  unfold Obligations.StepRunsTheDecodedCommand
  intro s i rest ht hc hr hd
  rw [step, ht]
  exact commandTurn_of_instr ((drawTurn_curCmd s).trans hc) ((drawTurn_response s).trans hr)
    ((congrArg decode (drawTurn_hostBytes s)).trans hd)

/-! ### How a segment ends -/

/-- R18, R19: a segment ends with the command waiting and no response, or with its one response of R100's format. -/
def State.SegmentEnded (t : State) : Prop :=
  (t.curCmd ≠ none ∧ t.env.response = []) ∨ (t.curCmd = none ∧ ∃ st v d, t.env.response = responseBytes st v d)

/-- R18 -/
theorem finish_segmentEnded (s : State) (st : Status) (v : Word32) (d : List Byte) :
    (s.finish st v d).SegmentEnded := .inr ⟨rfl, st, v, d, rfl⟩

section Segments

variable {s : State}

/-- R19 -/
theorem await_segmentEnded (hr : s.env.response = []) (c : CurCmd) : (s.await c).SegmentEnded :=
  .inl ⟨Option.some_ne_none c, hr⟩

theorem whenOpen_segmentEnded {run : State → State} (h : (run s).SegmentEnded) : (s.whenOpen run).SegmentEnded := by
  rcases whenOpen_spec s run with ⟨-, e⟩ | ⟨-, e⟩ <;> rw [e]
  · exact h
  · exact finish_segmentEnded _ _ _ _

theorem runSetrate_segmentEnded (rate : Word32) : (s.runSetrate rate).SegmentEnded := by
  unfold State.runSetrate
  split <;> exact finish_segmentEnded _ _ _ _

theorem runReadline_segmentEnded (delim : Byte) (n : Nat) : (s.runReadline delim n).SegmentEnded := by
  unfold State.runReadline
  split <;> exact finish_segmentEnded _ _ _ _

theorem runUnread_segmentEnded (data : List Byte) : (s.runUnread data).SegmentEnded := by
  unfold State.runUnread
  split <;> exact finish_segmentEnded _ _ _ _

theorem writebPass_segmentEnded (hr : s.env.response = []) (rem : List Byte) (total : Nat) :
    (s.writebPass rem total).SegmentEnded := by
  simp only [State.writebPass]
  split
  · exact finish_segmentEnded _ _ _ _
  · exact await_segmentEnded (by simpa using hr) _

theorem runFlush_segmentEnded (hr : s.env.response = []) : s.runFlush.SegmentEnded := by
  unfold State.runFlush
  split
  · exact finish_segmentEnded _ _ _ _
  · exact await_segmentEnded hr _

theorem awaitpPass_segmentEnded (hr : s.env.response = []) (t : Nat) : (s.awaitpPass t).SegmentEnded := by
  unfold State.awaitpPass
  split_ifs
  · exact finish_segmentEnded _ _ _ _
  · exact await_segmentEnded hr _
  · exact finish_segmentEnded _ _ _ _

theorem initLoop_segmentEnded (hr : s.env.response = []) (a : Nat) : (s.initLoop a).SegmentEnded := by
  unfold State.initLoop
  split
  · exact finish_segmentEnded _ _ _ _
  · exact await_segmentEnded (by simpa [State.startRoundTrip] using hr) _

/-- R240: the probe, too, is drawn with no response standing. -/
theorem runInit_segmentEnded (hr : s.env.response = []) : s.runInit.SegmentEnded := by
  obtain ⟨e, he, her⟩ := drawProbe_state s
  have hp : s.drawProbe.2.env.response = [] := by rw [he]; exact her.trans hr
  simp only [State.runInit]
  split
  · exact finish_segmentEnded _ _ _ _
  · split
    · exact finish_segmentEnded _ _ _ _
    · exact initLoop_segmentEnded (by simpa using hp) 0

/-- R84: the first segment of any command, its last response read. -/
theorem exec_segmentEnded (hr : s.env.response = []) {i : Instr} (hi : i.isCommand = true) {t : State}
    (ht : exec i s = .next t) : t.SegmentEnded := by
  cases i <;> cases hi <;> cases ht
  case init => exact runInit_segmentEnded hr
  case shutdown | rdreg => split <;> exact finish_segmentEnded _ _ _ _
  all_goals apply whenOpen_segmentEnded
  case setrate rate => exact runSetrate_segmentEnded rate
  case wait => exact await_segmentEnded hr .wait
  case writeb data => exact writebPass_segmentEnded hr data 0
  case flush => exact runFlush_segmentEnded hr
  case readline delim n => exact runReadline_segmentEnded delim n.toNat
  case unread data => exact runUnread_segmentEnded data
  case awaitp t => exact awaitpPass_segmentEnded (by simpa using hr) t.toNat
  case write | read | avail | enqp | rdreply => exact finish_segmentEnded _ _ _ _

end Segments

/-- Settles O23: the step is the first segment of the decoded command (O7), run with no response standing. -/
theorem oneResponsePerCommand : Obligations.OneResponsePerCommand := by
  unfold Obligations.OneResponsePerCommand
  intro s t i rest ht hc hr hd h
  rw [stepRunsTheDecodedCommand s i rest ht hc hr hd] at h
  exact exec_segmentEnded (by simpa [drawTurn_response] using hr) (isCommand_of_decode hd) h

end Sys2Proof.Machine
end

section
/-! The command port's codec (R91 to R98): every well-formed command is assembled from a header and a body with its
reserved fields 0, and what is assembled so has that header and body as its encoding. Both directions of the codec
follow. -/

namespace Sys2Proof

/-! ### The opcode map and the reserved fields (R95, R96, R98) -/

/-- R95: which header fields each opcode requires to be 0. -/
theorem reservedClear_iff (o : Op) (aux : Byte) (n : Word16) : o.format.reservedClear aux n = true ↔
    ((o ∈ [.init, .shutdown, .setrate, .wait, .flush, .avail] → aux = 0 ∧ n = 0) ∧
     (o = .rdreg → n = 0) ∧
     (o ∈ [.write, .writeb, .read, .unread, .awaitp, .rdreply] → aux = 0) ∧
     (o = .enqp → aux = 0 ∨ aux = 1)) := by
  have hcap : aux.extractLsb' 1 7 = 0 ↔ aux = 0 ∨ aux = 1 := by decide +revert
  cases o
  case enqp => simpa [Op.format, Format.reservedClear] using hcap
  all_goals simp [Op.format, Format.reservedClear]

/-- R96: a byte is defined exactly when it is an opcode's. -/
theorem ofByte_eq_some_iff (b : Byte) (o : Op) : Op.ofByte b = some o ↔ b = o.byte :=
  ⟨ofByte_some b o, fun h => h ▸ ofByte_byte o⟩

/-- R96: the defined bytes, a fact about the 256 values of OP. -/
theorem ofByte_isSome_iff (b : Byte) : (Op.ofByte b).isSome = true ↔
    b ∈ ([0x01, 0x02, 0x03, 0x04, 0x05, 0x10, 0x11, 0x12, 0x20, 0x21, 0x22, 0x23, 0x30, 0x31, 0x32] : List Byte) := by
  decide +revert

/-- Settles O6: the defined bytes by evaluation, the map one-to-one, the reserved fields format by format. -/
theorem opcodeMapAndReservedFields : Obligations.OpcodeMapAndReservedFields := by
  unfold Obligations.OpcodeMapAndReservedFields
  exact ⟨ofByte_isSome_iff, ofByte_eq_some_iff, reservedClear_iff⟩

/-! ### The fields of a body (R92, R93, R97) -/

/-- R97: the field N that says a payload's length is the length of that payload. -/
theorem payloadLength_of_length {data : List Byte} {n : Word16} (h : data.length = n.toNat) :
    payloadLength data = n := by rw [payloadLength, h, BitVec.ofNat_toNat, BitVec.setWidth_eq]

theorem payloadFits_of_length {data : List Byte} {n : Word16} (h : data.length = n.toNat) :
    payloadFits data = true := by
  simp only [payloadFits, decide_eq_true_eq]
  omega

/-- R92: X is read back from its own four bytes, whatever the payload. -/
theorem extensionWord_bytes32 (x : Word32) (payload : List Byte) : extensionWord (bytes32 x ++ payload) = x :=
  be32_bytes32 x

/-- R92: a body that holds X is the four bytes of X and the payload. -/
theorem bytes32_extensionWord {body : List Byte} (h : 4 ≤ body.length) :
    bytes32 (extensionWord body) ++ body.drop 4 = body := by
  match body, h with
  | b3 :: b2 :: b1 :: b0 :: payload, _ => rw [extensionWord, bytes32_be32]; rfl

/-! ### The length of a body (R94) -/

/-- A format with a payload and no X. -/
theorem bodyLength_cp (n : Word16) : Format.bodyLength .cp n = n.toNat := Nat.zero_add _

/-- A format with X and a payload. -/
theorem bodyLength_cxp (n : Word16) : Format.bodyLength .cxp n = 4 + n.toNat := rfl

/-! ### Commands as header and body -/

/-- R94, R95, R98: the body has the length the header asks for, and every reserved field is 0. -/
structure Op.Accepts (op : Op) (aux : Byte) (n : Word16) (body : List Byte) : Prop where
  length : body.length = op.format.bodyLength n
  reserved : op.format.reservedClear aux n = true

/-- R94: a payload that fits N makes a body of WRITE, WRITEB or UNREAD. -/
theorem accepts_payload {op : Op} (hf : op.format = .cp) {data : List Byte} (hw : payloadFits data = true) :
    op.Accepts 0 (payloadLength data) data where
  length := by rw [hf, bodyLength_cp, payloadLength_toNat hw]
  reserved := by rw [hf]; rfl

/-- R97: every well-formed command is assembled from an accepted header and body. -/
theorem exists_accepts_of_wellFormed {i : Instr} (hc : i.isCommand = true) (hw : i.WellFormed) :
    ∃ (op : Op) (aux : Byte) (n : Word16) (body : List Byte), i = op.instr aux n body ∧ op.Accepts aux n body := by
  cases i
  case init => exact ⟨.init, 0, 0, [], rfl, rfl, rfl⟩
  case shutdown => exact ⟨.shutdown, 0, 0, [], rfl, rfl, rfl⟩
  case wait => exact ⟨.wait, 0, 0, [], rfl, rfl, rfl⟩
  case flush => exact ⟨.flush, 0, 0, [], rfl, rfl, rfl⟩
  case avail => exact ⟨.avail, 0, 0, [], rfl, rfl, rfl⟩
  case rdreg reg => exact ⟨.rdreg, reg, 0, [], rfl, rfl, rfl⟩
  case read n => exact ⟨.read, 0, n, [], rfl, rfl, rfl⟩
  case awaitp t => exact ⟨.awaitp, 0, t, [], rfl, rfl, rfl⟩
  case rdreply n => exact ⟨.rdreply, 0, n, [], rfl, rfl, rfl⟩
  case readline delim n => exact ⟨.readline, delim, n, [], rfl, rfl, rfl⟩
  case setrate rate =>
    exact ⟨.setrate, 0, 0, bytes32 rate, congrArg Instr.setrate (extensionWord_bytes32 rate []).symm, rfl, rfl⟩
  case write data => exact ⟨.write, 0, _, data, rfl, accepts_payload rfl hw⟩
  case writeb data => exact ⟨.writeb, 0, _, data, rfl, accepts_payload rfl hw⟩
  case unread data => exact ⟨.unread, 0, _, data, rfl, accepts_payload rfl hw⟩
  case enqp cap mask frame =>
    refine ⟨.enqp, if cap then 1 else 0, payloadLength frame, bytes32 mask ++ frame, ?_, ?_, ?_⟩
    · rw [Op.instr, extensionWord_bytes32]
      cases cap <;> rfl
    · rw [List.length_append, Op.format, bodyLength_cxp, payloadLength_toNat hw]
      rfl
    · cases cap <;> rfl
  all_goals cases hc

/-- R91 to R95: what is assembled from an accepted header and body has them as its encoding. -/
theorem encode_instr {op : Op} {aux : Byte} {n : Word16} {body : List Byte} (h : op.Accepts aux n body) :
    encode (op.instr aux n body) = op.byte :: aux :: (bytes16 n ++ body) := by
  obtain ⟨hl, hr⟩ := h
  obtain ⟨h0, hreg, haux, hcap⟩ := (reservedClear_iff op aux n).1 hr
  cases op
  case init | shutdown | wait | flush | avail =>
    obtain ⟨rfl, rfl⟩ := h0 (by decide)
    obtain rfl := List.length_eq_zero_iff.1 hl
    rfl
  case rdreg =>
    obtain rfl := hreg rfl
    obtain rfl := List.length_eq_zero_iff.1 hl
    rfl
  case read | awaitp | rdreply =>
    obtain rfl := haux (by decide)
    obtain rfl := List.length_eq_zero_iff.1 hl
    rfl
  case readline =>
    obtain rfl := List.length_eq_zero_iff.1 hl
    rfl
  case write | writeb | unread =>
    obtain rfl := haux (by decide)
    rw [Op.format, bodyLength_cp] at hl
    rw [Op.instr, encode, payloadLength_of_length hl]
    rfl
  case setrate =>
    obtain ⟨rfl, rfl⟩ := h0 (by decide)
    have hl : body.length = 4 := hl
    have hx := bytes32_extensionWord hl.ge
    rw [List.drop_of_length_le hl.le, List.append_nil] at hx
    rw [Op.instr, encode, commandBytes, List.append_nil, hx]
    rfl
  case enqp =>
    rw [Op.format, bodyLength_cxp] at hl
    have hx := bytes32_extensionWord (body := body) (by omega)
    have hn : payloadLength (body.drop 4) = n := payloadLength_of_length (by rw [List.length_drop]; omega)
    have ha : (if aux.getLsbD 0 then 1 else 0) = aux := by rcases hcap rfl with rfl | rfl <;> rfl
    rw [Op.instr, encode, hn, ha, commandBytes, List.append_assoc, hx]
    rfl

/-- R94: a payload that comes from an accepted body fits. -/
theorem wellFormed_instr {op : Op} {aux : Byte} {n : Word16} {body : List Byte} (h : op.Accepts aux n body) :
    (op.instr aux n body).WellFormed := by
  have hl := h.length
  cases op
  case write | writeb | unread =>
    exact payloadFits_of_length (hl.trans (bodyLength_cp n))
  case enqp =>
    rw [Op.format, bodyLength_cxp] at hl
    exact payloadFits_of_length (data := body.drop 4) (n := n) (by rw [List.length_drop]; omega)
  all_goals rfl

/-! ### Both directions -/

/-- Settles O1: the encoding is the header and body the command is assembled from, which decode to it. -/
theorem commandDecodeEncode : Obligations.CommandDecodeEncode := by
  unfold Obligations.CommandDecodeEncode
  intro i rest hc hw
  obtain ⟨op, aux, n, body, rfl, h⟩ := exists_accepts_of_wellFormed hc hw
  rw [encode_instr h, List.cons_append, List.cons_append, List.append_assoc]
  exact decode_of_body op aux n body rest h.length h.reserved

/-- R94, R97, R98: the bytes a command decodes from are its header, its accepted body and the rest. -/
theorem exists_accepts_of_decode {bs rest : List Byte} {i : Instr} (h : decode bs = .instr i rest) :
    ∃ (op : Op) (aux : Byte) (n : Word16) (body : List Byte), i = op.instr aux n body ∧ op.Accepts aux n body ∧
      bs = op.byte :: aux :: (bytes16 n ++ (body ++ rest)) := by
  rcases bs with _ | ⟨op, _ | ⟨aux, _ | ⟨n1, _ | ⟨n0, tail⟩⟩⟩⟩
  on_goal 5 =>
    rcases decode_spec op aux n1 n0 tail with
      ⟨-, e⟩ | ⟨o, rfl, ⟨-, e⟩ | ⟨body, more, rfl, hl, ⟨hr, e⟩ | ⟨-, e⟩⟩⟩ <;> rw [e] at h <;> cases h
    exact ⟨o, aux, be16 n1 n0, body, rfl, ⟨hl, hr⟩, by rw [bytes16_be16]; rfl⟩
  all_goals rw [decode_short (by simp)] at h; cases h

/-- Settles O2: the header and body the decoder read are the encoding of what it assembled from them. -/
theorem decodedBytesAreTheEncoding : Obligations.DecodedBytesAreTheEncoding := by
  unfold Obligations.DecodedBytesAreTheEncoding
  intro bs rest i h
  have hc := isCommand_of_decode h
  obtain ⟨op, aux, n, body, rfl, hacc, rfl⟩ := exists_accepts_of_decode h
  refine ⟨hc, wellFormed_instr hacc, ?_⟩
  rw [encode_instr hacc, List.cons_append, List.cons_append, List.append_assoc]

end Sys2Proof
end

section
/-! The codec of the wire rows and the control frames (R103 to R105, R108, R130, R131). -/

namespace Sys2Proof

/-! ### Received bytes (R103, R130) -/

/-- R130: a plain byte is neither the marker nor noise. -/
theorem rxLiteral_wellFormed_iff {d : Byte} :
    (Instr.rxLiteral d).WellFormed ↔ d ≠ escMark ∧ d ≠ 0x00 ∧ d ≠ 0xFF := by
  simp only [Instr.WellFormed, Instr.wellFormed, isPlainReceived, Bool.and_eq_true, bne_iff_ne, escMark]
  tauto

theorem decodeRx_plain {d : Byte} (h : (Instr.rxLiteral d).WellFormed) : decodeRx false d = .rxLiteral d := by
  obtain ⟨h5C, h00, hFF⟩ := rxLiteral_wellFormed_iff.1 h
  rw [decodeRx, if_neg Bool.false_ne_true, if_neg h5C, if_neg h00, if_neg hFF]

/-- R103: the five received rows divide the bytes between them in each escape state. -/
theorem decodeRx_spec (esc : Bool) (b : Byte) :
    (decodeRx esc b).WellFormed ∧ encode (decodeRx esc b) = [b] := by
  cases esc with
  | true => exact ⟨rfl, rfl⟩
  | false =>
    by_cases h5C : b = escMark
    · subst h5C; exact ⟨rfl, rfl⟩
    by_cases h00 : b = 0x00
    · subst h00; exact ⟨rfl, rfl⟩
    by_cases hFF : b = 0xFF
    · subst hFF; exact ⟨rfl, rfl⟩
    have hw : (Instr.rxLiteral b).WellFormed := rxLiteral_wellFormed_iff.2 ⟨h5C, h00, hFF⟩
    rw [decodeRx_plain hw]
    exact ⟨hw, rfl⟩

/-! ### Transmitted bytes (R104, R105, R131) -/

theorem decodeTx_plain {b : Byte} (h : (Instr.txLiteral b).WellFormed) (rest : List Byte) :
    decodeTx (b :: rest) = some (.txLiteral b, rest) := by
  simp only [Instr.WellFormed, Instr.wellFormed, isPlainSent, Bool.and_eq_true, bne_iff_ne] at h
  obtain ⟨h00, h5C⟩ := h
  exact (if_neg h5C).trans (if_neg h00)

/-- R131: a transmitted row is read only from its own bytes. -/
theorem eq_encode_of_decodeTx {bs rest : List Byte} {i : Instr} (h : decodeTx bs = some (i, rest)) :
    bs = encode i ++ rest := by
  unfold decodeTx at h
  split at h
  case h_1 => cases h
  case h_2 b tail =>
    split_ifs at h with hm hf
    · split at h
      · split_ifs at h with h0 h5 <;> cases h <;> subst_vars <;> rfl
      · cases h
    · cases h; subst hf; rfl
    · cases h; rfl

/-! ### Control frames (R108) -/

theorem decodeFrame_setrateFrame (r : Word32) : decodeFrame (encode (.setrateFrame r)) = some (.setrateFrame r) :=
  congrArg (fun x => some (Instr.setrateFrame x)) (be32_bytes32 r)

/-- R108: a control frame is read only from its own bytes. -/
theorem eq_encode_of_decodeFrame {bs : List Byte} {i : Instr} (h : decodeFrame bs = some i) : bs = encode i := by
  unfold decodeFrame at h
  split at h
  case h_1 m t p =>
    split_ifs at h with hv hl hh <;> cases h
    · obtain ⟨rfl, rfl, rfl⟩ := hv; rfl
    · obtain ⟨rfl, rfl, rfl⟩ := hl; rfl
    · obtain ⟨rfl, rfl, rfl⟩ := hh; rfl
  case h_2 m t r3 r2 r1 r0 =>
    split_ifs at h with hr
    cases h
    obtain ⟨rfl, rfl⟩ := hr
    rw [encode, bytes32_be32]
    rfl
  case h_3 => cases h

/-- Settles O3: each decoder reads a row's bytes, and only those. -/
theorem wireRowsDecodeEncode : Obligations.WireRowsDecodeEncode := by
  unfold Obligations.WireRowsDecodeEncode
  exact ⟨decodeRx_spec, fun _ => rfl, rfl, rfl, rfl, fun _ => decodeRx_plain, fun _ => ⟨rfl, rfl, rfl⟩,
    fun _ rest h => decodeTx_plain h rest, fun _ _ _ => eq_encode_of_decodeTx, decodeFrame_setrateFrame, rfl, rfl, rfl,
    fun _ _ => eq_encode_of_decodeFrame⟩

/-- Settles O4: each word is evaluated. -/
theorem specWordsDecode : Obligations.SpecWordsDecode := by
  unfold Obligations.SpecWordsDecode
  exact ⟨rfl, rfl, rfl, rfl, rfl, rfl, rfl, rfl⟩

end Sys2Proof
end

section
/-! Turns that leave the core as it is (R90, R98, R99, R220, R276, R277, R302): an illegal command is answered, and an
agent with nothing to do passes. -/

namespace Sys2Proof

/-! ### Illegal commands (R98) -/

/-- R98 item 1: an undefined opcode takes its four header bytes with it. -/
theorem decode_undefined {op : Byte} (h : Op.ofByte op = none) (aux n1 n0 : Byte) (rest : List Byte) :
    decode (op :: aux :: n1 :: n0 :: rest) = .bad (.undefinedOpcode op) rest := by simp [decode, h]

/-- R98 item 2: a nonzero reserved field takes the whole command with it. -/
theorem decode_reserved {op : Byte} {o : Op} (h : Op.ofByte op = some o) {aux n1 n0 : Byte} {body : List Byte}
    (hl : body.length = o.format.bodyLength (be16 n1 n0)) (hr : o.format.reservedClear aux (be16 n1 n0) = false)
    (rest : List Byte) : decode (op :: aux :: n1 :: n0 :: (body ++ rest)) = .bad (.reservedField o) rest := by
  simp [decode, h, hr, ← hl]

end Sys2Proof

namespace Sys2Proof.Machine

/-- R84, R98: the step of the idle Command unit that finds an illegal command. -/
theorem step_of_bad {s : State} {why : Reject} {rest : List Byte} (ht : s.drawTurn.1 = .command)
    (hc : s.curCmd = none) (hr : s.env.response = []) (hd : decode s.env.hostBytes = .bad why rest) :
    step s = .next ((s.drawTurn.2.withHostBytes rest).finish .badCommand 0 []) := by
  rw [step, ht]
  exact commandTurn_of_bad ((drawTurn_curCmd s).trans hc) ((drawTurn_response s).trans hr)
    ((congrArg decode (drawTurn_hostBytes s)).trans hd)

/-- Settles O5: the decoder turns both kinds of command away, whether the core is open or closed. -/
theorem illegalCommandsAreAnswered : Obligations.IllegalCommandsAreAnswered := by
  unfold Obligations.IllegalCommandsAreAnswered
  intro s op aux n1 n0 body rest ht hc hr hb
  refine ⟨fun hop hnil => ?_, fun o hop hl hres => ?_⟩
  · subst hnil
    exact step_of_bad ht hc hr ((congrArg decode hb).trans (decode_undefined hop aux n1 n0 rest))
  · exact step_of_bad ht hc hr ((congrArg decode hb).trans (decode_reserved hop hl hres rest))

/-! ### Agents with nothing to do -/

theorem isOpen_eq_false {s : State} (h : s.timerId = none) : s.isOpen = false := by simp [State.isOpen, h]

/-- R220: no transaction serves a source that is not pending, or in a closed core. -/
theorem exchangeDue_eq_false {s : State} {src : Source} (h : s.pending src = false ∨ s.timerId = none) :
    s.exchangeDue src = false := by
  rcases h with hp | hc
  · simp [State.exchangeDue, hp]
  · simp [State.exchangeDue, isOpen_eq_false hc]

/-- R276: the Timer does not fire in a closed core, unarmed or disabled. -/
theorem timerEvent_of_not_due {s : State} (h : s.timerId = none ∨ s.clkArmed = false ∨ s.ieClk = false) :
    s.timerEvent = s := by
  have hdue : s.timerDue = false := by
    rcases h with hc | ha | hi
    · simp [State.timerDue, isOpen_eq_false hc]
    · simp [State.timerDue, ha]
    · simp [State.timerDue, hi]
  simp [State.timerEvent, hdue]

/-- R277: a disabled signal sets no pending bit. -/
theorem linkChangeEvent_of_disabled {s : State} (h : s.ieLnk = false) : s.linkChangeEvent = s := by
  simp [State.linkChangeEvent, h]

/-- A draw of a turn decides no source's service. -/
theorem drawTurn_exchangeDue (s : State) (src : Source) : s.drawTurn.2.exchangeDue src = s.exchangeDue src := by
  obtain ⟨e, he, -⟩ := drawTurn_state s
  rw [he]
  cases src <;> rfl

/-- A draw of a turn leaves the interrupt control as it is. -/
theorem drawTurn_enables (s : State) :
    s.drawTurn.2.clkArmed = s.clkArmed ∧ s.drawTurn.2.ieClk = s.ieClk ∧ s.drawTurn.2.ieLnk = s.ieLnk := by
  obtain ⟨e, he, -⟩ := drawTurn_state s
  rw [he]
  exact ⟨rfl, rfl, rfl⟩

/-- Settles O10: each agent's condition is read from the state the turn was drawn from. -/
theorem disabledAgentsPassTheirTurn : Obligations.DisabledAgentsPassTheirTurn := by
  unfold Obligations.DisabledAgentsPassTheirTurn
  intro s
  obtain ⟨harmed, hclk, hlnk⟩ := drawTurn_enables s
  refine ⟨fun ht hc hi => ?_, fun src ht h => ?_, fun ht h => ?_, fun ht h => ?_, fun ht => ?_⟩ <;>
    rw [step, ht, takeTurn]
  · rw [← drawTurn_response, ← drawTurn_hostBytes] at hi
    exact commandTurn_of_idle ((drawTurn_curCmd s).trans hc) hi
  · rw [exchangeTurn_spec, drawTurn_exchangeDue, exchangeDue_eq_false h]
    rfl
  · rw [← drawTurn_timerId, ← harmed, ← hclk] at h
    rw [timerEvent_of_not_due h]
  · rw [linkChangeEvent_of_disabled (hlnk.trans h)]

end Sys2Proof.Machine
end

section
/-! The closed core's answer (R99 item 3), the control-frame rows (R108, R110 to R112) and the byte a transaction sends
(R102, R105, R221). -/

namespace Sys2Proof.Machine

/-! ### The closed core -/

/-- R99 item 3 -/
theorem whenOpen_of_closed {s : State} (h : s.timerId = none) (run : State → State) :
    s.whenOpen run = s.finish .closed 0 [] := by simp [State.whenOpen, isOpen_eq_false h]

theorem whenOpen_of_open {s : State} (h : s.isOpen = true) (run : State → State) : s.whenOpen run = run s := by
  simp [State.whenOpen, h]

/-- Settles O24: each of the twelve runs only while the core is open. -/
theorem closedCoreAnswersClosed : Obligations.ClosedCoreAnswersClosed := by
  unfold Obligations.ClosedCoreAnswersClosed
  intro s i hclosed hcommand hinit hshutdown hrdreg
  cases i
  case init => exact absurd rfl hinit
  case shutdown => exact absurd rfl hshutdown
  case rdreg r => exact absurd rfl (hrdreg r)
  case setrate | wait | write | writeb | flush | read | readline | avail | unread | enqp | awaitp | rdreply =>
    exact congrArg Host.Outcome.next (whenOpen_of_closed hclosed _)
  all_goals cases hcommand

/-! ### The control-frame rows -/

/-- R190, R200: ENQP's segment with a frame OUT_TOTAL has room for. -/
theorem runEnqp_of_fits {s : State} {frame : List Byte} (h : frame.length ≤ s.cfg.outTotal) (cap : Bool)
    (mask : Word32) : s.runEnqp cap mask frame = (s.framed frame cap mask).finish .ok 0 [] := by
  rcases prioInsert_spec s frame cap mask with ⟨-, e⟩ | ⟨hlong, -⟩
  · rw [State.runEnqp, e, insertFrame_eq]
    rfl
  · omega

/-- R200: the same in an open core, as the rows of ENQP and of its pseudo-instructions run it. -/
theorem whenOpen_runEnqp {s : State} (ho : s.isOpen = true) {frame : List Byte} (h : frame.length ≤ s.cfg.outTotal)
    (cap : Bool) (mask : Word32) :
    s.whenOpen (fun t => t.runEnqp cap mask frame) = (s.framed frame cap mask).finish .ok 0 [] := by
  rw [whenOpen_of_open ho, runEnqp_of_fits h]

/-- R108, R112: the set-rate frame carries its rate most significant byte first. -/
theorem encode_setrateFrame (r3 r2 r1 r0 : Byte) :
    encode (.setrateFrame (r3 ++ r2 ++ r1 ++ r0)) = [0x5C, 0x62, r3, r2, r1, r0] :=
  congrArg (fun bs => [escMark, tagRate] ++ bs) (bytes32_be32 r3 r2 r1 r0)

/-- Settles O42: each row is ENQP's segment with its frame. -/
theorem controlFrameRowsInsert : Obligations.ControlFrameRowsInsert := by
  unfold Obligations.ControlFrameRowsInsert
  intro s ho
  refine ⟨fun h => ⟨?_, ?_, ?_⟩, fun r3 r2 r1 r0 h => ?_⟩
  · exact congrArg Host.Outcome.next (whenOpen_runEnqp ho (frame := versionFrame) h true 0)
  · exact congrArg Host.Outcome.next (whenOpen_runEnqp ho (frame := lowWaterFrame) h false 0)
  · exact congrArg Host.Outcome.next (whenOpen_runEnqp ho (frame := highWaterFrame) h false 0)
  · rw [← encode_setrateFrame]
    exact congrArg Host.Outcome.next (whenOpen_runEnqp ho (frame := encode (.setrateFrame _)) h false 0)

/-! ### The byte sent -/

/-- R221: the byte step 1 sends. -/
theorem txByte_eq_nextByte (s : State) : s.txByte = s.nextByte := by
  simp [State.txByte, State.nextByte, State.txQueued, filler]

/-- Settles O48: the byte of the transaction's step 1. -/
theorem transactionSendsOneByte : Obligations.TransactionSendsOneByte := by
  unfold Obligations.TransactionSendsOneByte
  intro s src
  rw [transaction_wire, txByte_eq_nextByte]
  rfl

/-- Settles O31: step 1 of R221 with nothing queued and with a byte queued. -/
theorem fillerRowTransmits : Obligations.FillerRowTransmits := by
  unfold Obligations.FillerRowTransmits
  intro s
  have hx : exec .txFiller s = .next s.transmit := rfl
  rw [hx, State.transmit, txByte_eq_nextByte]
  refine ⟨fun h => ?_, fun h => ?_⟩
  · have hq : s.txQueued = false := by rw [← Bool.not_eq_true, txQueued_iff]; omega
    have hb : s.nextByte = 0x00 := if_neg (by omega)
    simp [hq, hb]
  · simp [txQueued_iff.2 h]

end Sys2Proof.Machine
end

section
/-! Framing outside a frame (R130, R131, R134, R136, R140, R172, R220, R224): the expansion and the filter that undoes
it, the received rows as the filter runs them, and the transmitted rows as the write path appends them. -/

namespace Sys2Proof.Machine

/-! ### The expansion (R131, R136) -/

/-- R131: the two bytes that are sent behind a marker. -/
theorem escape_of_special {b : Byte} (h : b = 0x00 ∨ b = escMark) : escape b = [escMark, b] := if_pos h

theorem escape_of_plain {b : Byte} (h : ¬ (b = 0x00 ∨ b = escMark)) : escape b = [b] := if_neg h

/-- R136: an expanded source occupies the size the rule counts. -/
theorem length_flatMap_escape (src : List Byte) : (src.flatMap escape).length = expandedSize src := by
  induction src with
  | nil => rfl
  | cons b bs ih =>
    have hb : (b == 0x00 || b == 0x5C) = true ↔ b = 0x00 ∨ b = escMark := by simp [escMark]
    simp only [List.flatMap_cons, List.length_append, ih, escape_length, expandedSize, List.countP_cons,
      List.length_cons, hb]
    split <;> omega

/-- Settles O27: an expansion's length by its two cases, a sequence's by induction over its bytes. -/
theorem expansionSize : Obligations.ExpansionSize := by
  unfold Obligations.ExpansionSize
  exact ⟨escape_length, length_flatMap_escape⟩

/-! ### The filter (R130) -/

theorem unescape_escaped (b : Byte) : unescape b true = (some b, false) := rfl

theorem unescape_plain {b : Byte} (h : (Instr.rxLiteral b).WellFormed) : unescape b false = (some b, false) := by
  obtain ⟨h5C, h00, hFF⟩ := rxLiteral_wellFormed_iff.1 h
  rw [unescape, if_neg fun h => h5C h.2, if_neg Bool.false_ne_true, if_neg (not_or.2 ⟨h00, hFF⟩)]

/-- R130: a stream is filtered piece by piece, each in the escape state the piece before it leaves. -/
theorem unescapeStream_append (bs cs : List Byte) : ∀ esc : Bool,
    unescapeStream esc (bs ++ cs) =
      ((unescapeStream esc bs).1 ++ (unescapeStream (unescapeStream esc bs).2 cs).1,
        (unescapeStream (unescapeStream esc bs).2 cs).2) := by
  induction bs with
  | nil => exact fun _ => rfl
  | cons b bs ih =>
    intro esc
    simp only [List.cons_append, unescapeStream, ih, List.append_assoc]

/-! ### The filter undoes the expansion (R134) -/

/-- R134: an expansion is entered and left outside the escape state, and emits its source byte. -/
theorem unescapeStream_escape {b : Byte} (hb : b ≠ 0xFF) : unescapeStream false (escape b) = ([b], false) := by
  by_cases hs : b = 0x00 ∨ b = escMark
  · rw [escape_of_special hs]
    obtain rfl | rfl := hs <;> rfl
  · obtain ⟨h00, h5C⟩ := not_or.1 hs
    have hu : unescape b false = (some b, false) := unescape_plain (rxLiteral_wellFormed_iff.2 ⟨h5C, h00, hb⟩)
    rw [escape_of_plain hs, unescapeStream, hu]
    rfl

/-- R134 over a stream: 0xFF, sent as it stands, is taken for noise, and every other byte arrives. -/
theorem unescapeStream_flatMap_escape (src : List Byte) :
    unescapeStream false (src.flatMap escape) = (src.filter (· != 0xFF), false) := by
  induction src with
  | nil => rfl
  | cons b bs ih =>
    rw [List.flatMap_cons, unescapeStream_append]
    by_cases hb : b = 0xFF
    · subst hb
      exact ih
    · rw [unescapeStream_escape hb, ih, List.filter_cons_of_pos (by simpa using hb)]
      rfl

/-- Settles O26: one expansion, then the stream by induction over the source. -/
theorem expandedStreamDecodesBack : Obligations.ExpandedStreamDecodesBack := by
  unfold Obligations.ExpandedStreamDecodesBack
  exact ⟨unescapeStream_flatMap_escape, fun _ => unescapeStream_escape, rfl, rfl⟩

/-! ### The append to IN (R140, R142, R190) -/

/-- R190: the insertion of a frame OUT_TOTAL has room for. -/
theorem prioInsert_of_fits {s : State} {frame : List Byte} (h : frame.length ≤ s.cfg.outTotal) (cap : Bool)
    (mask : Word32) : s.prioInsert frame cap mask = (.ok, s.framed frame cap mask) := by
  rcases prioInsert_spec s frame cap mask with ⟨-, e⟩ | ⟨hlong, -⟩
  · rw [e, insertFrame_eq]
    rfl
  · omega

/-- R142: an OUT with room for the notice takes it when HighCheck's test holds. -/
theorem highCheck_eq_highChecked {s : State} (h : 3 ≤ s.cfg.outTotal) : s.highCheck = s.highChecked := by
  rcases highCheck_spec s with ⟨hdue, e⟩ | ⟨hdue, e⟩
  · rw [e, prioInsert_of_fits (frame := highWaterFrame) h, State.highChecked, if_pos (highDue_iff.1 hdue)]
    rfl
  · rw [e, State.highChecked, if_neg fun hc => absurd (highDue_iff.2 hc) (by simp [hdue])]

/-- R140: InAppend evicts from a full IN, appends and checks. -/
theorem inAppend_eq_appended {s : State} (h : 3 ≤ s.cfg.outTotal) (d : Byte) : s.inAppend d = s.appended d := by
  unfold State.inAppend State.appended
  rcases evict_spec s with ⟨hfull, e⟩ | ⟨hroom, e⟩
  · rw [e, if_pos hfull]
    exact highCheck_eq_highChecked h
  · rw [e, if_neg (Nat.not_le.2 hroom)]
    exact highCheck_eq_highChecked h

/-! ### The received rows outside a frame (R130, R220, R224) -/

/-- R220: outside a frame a received byte goes to the filter. -/
theorem receive_of_no_frame {s : State} (h : s.pLen ≤ s.pSent) (rx : Byte) : s.receive rx = s.filterStep rx := by
  rcases receive_spec s rx with ⟨hi, -⟩ | ⟨-, e⟩
  · exact absurd (inFlight_iff.1 hi) (Nat.not_lt.2 h)
  · exact e

/-- R224: a byte the filter holds back or drops changes at most ESC. -/
theorem receive_silent {s : State} (h : s.pLen ≤ s.pSent) {rx : Byte} {esc : Bool}
    (hu : unescape rx s.esc = (none, esc)) : s.receive rx = { s with esc := esc } := by
  rw [receive_of_no_frame h, State.filterStep, hu]

/-- R224, R140: a byte the filter emits is appended to IN. -/
theorem receive_emitted {s : State} (h : s.pLen ≤ s.pSent) (ht : 3 ≤ s.cfg.outTotal) {rx d : Byte} {esc : Bool}
    (hu : unescape rx s.esc = (some d, esc)) : s.receive rx = State.appended { s with esc := esc } d := by
  rw [receive_of_no_frame h, State.filterStep, hu]
  exact inAppend_eq_appended (s := { s with esc := esc }) ht d

/-- Settles O28: what the filter emits for each row's byte in the row's escape state, and the state it leaves. -/
theorem receivedRowsFilter : Obligations.ReceivedRowsFilter := by
  unfold Obligations.ReceivedRowsFilter
  intro s hf ht
  refine ⟨fun he => ?_, fun he => ?_, fun he => ?_, fun d he hw => ?_, fun d he => ?_⟩ <;>
    refine congrArg Host.Outcome.next ?_
  · have hu : unescape escMark s.esc = (none, true) := by rw [he]; rfl
    exact receive_silent hf hu
  · have hu : unescape 0x00 s.esc = (none, s.esc) := by rw [he]; rfl
    exact receive_silent hf hu
  · have hu : unescape 0xFF s.esc = (none, s.esc) := by rw [he]; rfl
    exact receive_silent hf hu
  · have hu : unescape d s.esc = (some d, s.esc) := by rw [he]; exact unescape_plain hw
    exact receive_emitted hf ht hu
  · have hu : unescape d s.esc = (some d, false) := by rw [he]; exact unescape_escaped d
    exact receive_emitted hf ht hu

/-- Settles O8: the row of the byte and the rest of the transaction are one operation in either escape state. -/
theorem stepRunsTheReceivedRow : Obligations.StepRunsTheReceivedRow := by
  unfold Obligations.StepRunsTheReceivedRow
  intro s src ht hd
  have hstep : step s = .next (s.drawTurn.2.transaction src) := by
    rw [step, ht, takeTurn, exchangeTurn_spec, drawTurn_exchangeDue, hd]
    rfl
  exact ⟨_, exec_decodeRx _ _ _, hstep, hstep⟩

/-! ### The transmitted rows (R131, R172) -/

theorem appendExpansion_of_fits {s : State} {e : List Byte} (h : s.out.length + e.length ≤ s.cfg.outCap) :
    s.appendExpansion e = s.push e := if_pos (decide_eq_true h)

theorem appendExpansion_of_not_fits {s : State} {e : List Byte} (h : s.cfg.outCap < s.out.length + e.length) :
    s.appendExpansion e = s := if_neg (by simpa [State.fits] using h)

/-- Settles O30: each row appends its whole expansion or nothing. -/
theorem expansionRowsAppend : Obligations.ExpansionRowsAppend := by
  unfold Obligations.ExpansionRowsAppend
  intro s
  refine ⟨fun h => ⟨?_, ?_⟩, fun b h => ?_, fun h => ⟨?_, ?_⟩, fun b h => ?_⟩ <;>
    refine congrArg Host.Outcome.next ?_
  · exact appendExpansion_of_fits (e := escape 0x00) h
  · exact appendExpansion_of_fits (e := escape escMark) h
  · exact appendExpansion_of_fits (e := [b]) h
  · exact appendExpansion_of_not_fits (e := escape 0x00) h
  · exact appendExpansion_of_not_fits (e := escape escMark) h
  · exact appendExpansion_of_not_fits (e := [b]) h

end Sys2Proof.Machine
end

section
/-! The inbound buffer (R140 to R142, R145, R150 to R152, R160): the append with its eviction, the read commands with
the check that follows them, and UNREAD. -/

namespace Sys2Proof.Machine

/-! ### The append and the checks -/

/-- R190: a notice, or any other frame, leaves IN as it is. -/
@[simp] theorem prioInsert_inb (s : State) (f : List Byte) (cap : Bool) (mask : Word32) :
    (s.prioInsert f cap mask).2.inb = s.inb := by
  rcases prioInsert_spec s f cap mask with ⟨-, e⟩ | ⟨-, e⟩ <;> rw [e]
  rw [insertFrame_eq]

@[simp] theorem highCheck_inb (s : State) : s.highCheck.inb = s.inb := by
  rcases highCheck_spec s with ⟨-, e⟩ | ⟨-, e⟩ <;> rw [e]
  exact prioInsert_inb s highWaterFrame false 0

/-- R140: a full IN makes room before the byte is added. -/
theorem inAppend_inb_of_full {s : State} (h : s.cfg.inCap ≤ s.inb.length) (d : Byte) :
    (s.inAppend d).inb = s.inb.drop s.cfg.evictK ++ [d] := by
  rcases evict_spec s with ⟨-, e⟩ | ⟨hroom, -⟩
  · rw [State.inAppend, highCheck_inb, e]
  · omega

theorem inAppend_inb_of_room {s : State} (h : s.inb.length < s.cfg.inCap) (d : Byte) :
    (s.inAppend d).inb = s.inb ++ [d] := by
  rcases evict_spec s with ⟨hfull, -⟩ | ⟨-, e⟩
  · omega
  · rw [State.inAppend, highCheck_inb, e]

/-- Settles O32: R8 leaves OUT room for the notice, and the check leaves IN as the append made it. -/
theorem appendEvictsAndChecks : Obligations.AppendEvictsAndChecks := by
  unfold Obligations.AppendEvictsAndChecks
  intro s d hvalid
  refine ⟨inAppend_eq_appended hvalid.outTotal_ge d, fun hfull => ?_, fun hroom => inAppend_inb_of_room hroom d⟩
  have hin := inAppend_inb_of_full hfull.ge d
  refine ⟨hin, ?_⟩
  rw [hin, List.length_append, List.length_drop, hfull, List.length_singleton]

/-- R145: an OUT with room for the notice takes it when LowCheck's test holds. -/
theorem lowCheck_eq_lowChecked {s : State} (h : 3 ≤ s.cfg.outTotal) : s.lowCheck = s.lowChecked := by
  rcases lowCheck_spec s with ⟨hdue, e⟩ | ⟨hdue, e⟩
  · rw [e, prioInsert_of_fits (frame := lowWaterFrame) h, State.lowChecked, if_pos (lowDue_iff.1 hdue)]
    rfl
  · rw [e, State.lowChecked, if_neg fun hc => absurd (lowDue_iff.2 hc) (by simp [hdue])]

/-- R150, R151: the check runs on what the removal leaves of IN. -/
theorem dropInbound_lowCheck {s : State} (h : 3 ≤ s.cfg.outTotal) (k : Nat) :
    (s.dropInbound k).lowCheck = State.lowChecked { s with inb := s.inb.drop k } :=
  lowCheck_eq_lowChecked (s := s.dropInbound k) h

/-! ### READ (R150) -/

/-- Settles O33: `min(n, len(IN))` bytes are what a `take` of `n` gives and a `drop` of `n` leaves. -/
theorem readResult : Obligations.ReadResult := by
  unfold Obligations.ReadResult
  intro s n ho hroom
  have hrun : s.runRead n.toNat =
      (State.lowChecked { s with inb := s.inb.drop n.toNat }).finish .ok 0 (s.inb.take n.toNat) := by
    rw [State.runRead, dropInbound_lowCheck hroom, ← List.take_eq_take_min, ← List.drop_eq_drop_min]
  exact congrArg Host.Outcome.next ((whenOpen_of_open ho _).trans hrun)

/-! ### READLINE (R151) -/

/-- R151: the window `min(n, len(IN))` is the window `n`. -/
theorem findDelimiter_min_length (delim : Byte) (n : Nat) (l : List Byte) :
    findDelimiter delim (min n l.length) l = findDelimiter delim n l := by
  rw [findDelimiter, ← List.take_eq_take_min, findDelimiter]

/-- R151: the first delimiter stands behind the bytes that are none. -/
theorem findDelimiter_of_first {delim : Byte} {line : List Byte} (hline : delim ∉ line) {n : Nat}
    (hn : line.length < n) (rest : List Byte) :
    findDelimiter delim n (line ++ delim :: rest) = some line.length := by
  obtain ⟨m, rfl⟩ := Nat.exists_eq_add_of_lt hn
  have hnone : line.findIdx? (fun b => b == delim) = none :=
    List.findIdx?_eq_none_iff.2 fun _ hb => beq_false_of_ne (ne_of_mem_of_not_mem hb hline)
  rw [findDelimiter, Nat.add_assoc, List.take_length_add_append, List.take_succ_cons, List.findIdx?_append, hnone]
  simp [List.findIdx?_cons]

/-- R151: no offset is found in a window without the delimiter. -/
theorem findDelimiter_eq_none {delim : Byte} {n : Nat} {l : List Byte} (h : delim ∉ l.take n) :
    findDelimiter delim n l = none :=
  List.findIdx?_eq_none_iff.2 fun _ hb => beq_false_of_ne (ne_of_mem_of_not_mem hb h)

theorem runReadline_of_found {s : State} {delim : Byte} {n j : Nat} (h : findDelimiter delim n s.inb = some j) :
    s.runReadline delim n = ((s.dropInbound (j + 1)).lowCheck).finish .ok 0 (s.inb.take (j + 1)) := by
  rw [State.runReadline, findDelimiter_min_length, h]

theorem runReadline_of_not_found {s : State} {delim : Byte} {n : Nat} (h : findDelimiter delim n s.inb = none) :
    s.runReadline delim n = s.lowCheck.finish .notFound 0 [] := by
  rw [State.runReadline, findDelimiter_min_length, h]
  rfl

/-- Settles O34: the first delimiter's offset is the length of the line before it. -/
theorem readlineFound : Obligations.ReadlineFound := by
  unfold Obligations.ReadlineFound
  intro s delim n line rest ho hroom hin hline hn
  have hfound : findDelimiter delim n.toNat s.inb = some line.length := by
    rw [hin, findDelimiter_of_first hline hn]
  have hsplit : s.inb = (line ++ [delim]) ++ rest := by simpa using hin
  have hlen : line.length + 1 = (line ++ [delim]).length := by simp
  have hrun : s.runReadline delim n.toNat =
      (State.lowChecked { s with inb := rest }).finish .ok 0 (line ++ [delim]) := by
    rw [runReadline_of_found hfound, dropInbound_lowCheck hroom, hlen, hsplit, List.take_left, List.drop_left]
  exact congrArg Host.Outcome.next ((whenOpen_of_open ho _).trans hrun)

/-- Settles O35: with nothing found only the check is left to do. -/
theorem readlineNotFound : Obligations.ReadlineNotFound := by
  unfold Obligations.ReadlineNotFound
  intro s delim n ho hroom hnone
  have hrun : s.runReadline delim n.toNat = s.lowChecked.finish .notFound 0 [] := by
    rw [runReadline_of_not_found (findDelimiter_eq_none hnone), lowCheck_eq_lowChecked hroom]
  exact congrArg Host.Outcome.next ((whenOpen_of_open ho _).trans hrun)

/-! ### AVAIL and UNREAD (R152, R160) -/

/-- Settles O36: a count below 2^32 is not cut by V. -/
theorem availResult : Obligations.AvailResult := by
  unfold Obligations.AvailResult
  intro s ho hlt
  exact ⟨countValue s.inb.length, (BitVec.toNat_ofNat _ _).trans (Nat.mod_eq_of_lt hlt),
    congrArg Host.Outcome.next (whenOpen_of_open ho _)⟩

/-- Settles O37: the two cases of R160's test. -/
theorem unreadResult : Obligations.UnreadResult := by
  unfold Obligations.UnreadResult
  intro s data ho
  have hopen : exec (.unread data) s = .next (s.runUnread data) := congrArg Host.Outcome.next (whenOpen_of_open ho _)
  rw [hopen, State.runUnread]
  refine ⟨fun hfits => ?_, fun hlong => ?_⟩
  · rw [if_neg (Nat.not_lt.2 hfits)]
    rfl
  · rw [if_pos hlong]
    rfl

end Sys2Proof.Machine
end

section
/-! Who writes WM_LATCH and who inserts a frame (R142, R145, R146, R190). The two checks do both at once, each with its
notice, and INIT starts afresh; every other operation keeps the latch, and of those only an ENQP and INIT's version
query insert a frame and only a write appends. `step_notice` lists the steps. -/

namespace Sys2Proof.Machine

/-! ### What becomes of the latch and of OUT -/

/-- WM_LATCH is as it was and no frame was inserted. -/
def State.Quiet (s t : State) : Prop := t.wmLatch = s.wmLatch ∧ s.NoFrameInserted t

/-- R142: the latch was set, with the high-water notice. -/
def State.Raised (s t : State) : Prop := s.wmLatch = false ∧ t.wmLatch = true ∧ t.FrameInserted highWaterFrame

/-- R145: the latch was cleared, with the low-water notice. -/
def State.Lowered (s t : State) : Prop := s.wmLatch = true ∧ t.wmLatch = false ∧ t.FrameInserted lowWaterFrame

/-- R190: this frame was inserted and WM_LATCH is as it was. -/
def State.Inserts (s t : State) (frame : List Byte) : Prop := t.wmLatch = s.wmLatch ∧ t.FrameInserted frame

/-- R172: bytes were appended behind what OUT holds; WM_LATCH and the frame record are as they were. -/
def State.AppendsBehind (s t : State) : Prop :=
  t.wmLatch = s.wmLatch ∧ t.pLen = s.pLen ∧ t.pSent = s.pSent ∧ ∃ e, t.out = s.compacted.out ++ e

/-- R240, R241: INIT has cleared the latch and OUT, and sent its version query or given up. -/
def State.FreshlyOpened (t : State) : Prop :=
  t.wmLatch = false ∧ (t.FrameInserted versionFrame ∨ (t.out = [] ∧ t.pLen = 0))

/-- An operation that touches neither OUT, nor the frame record, nor the latch. -/
theorem State.Quiet.of_same {s t : State} (latch : t.wmLatch = s.wmLatch) (out : t.out = s.out)
    (pLen : t.pLen = s.pLen) (pSent : t.pSent = s.pSent) : s.Quiet t :=
  ⟨latch, out, .inl ⟨pLen, pSent.ge⟩⟩

theorem State.Quiet.refl (s : State) : s.Quiet s := .of_same rfl rfl rfl rfl

/-- R201, R241: a demoted frame's bytes stay in OUT. -/
theorem demote_quiet (s : State) : s.Quiet s.demote := ⟨rfl, rfl, .inr rfl⟩

/-! ### Frames and the watermark checks -/

section Checks

variable {s : State}

/-- R190: a frame OUT_TOTAL has room for is at the front of OUT. -/
theorem prioInsert_inserts {frame : List Byte} (h : frame.length ≤ s.cfg.outTotal) (cap : Bool) (mask : Word32) :
    s.Inserts (s.prioInsert frame cap mask).2 frame := by
  rw [prioInsert_of_fits h]
  exact ⟨rfl, List.take_left, rfl, rfl, rfl⟩

/-- R142 -/
theorem highCheck_notice (h : 3 ≤ s.cfg.outTotal) : s.Quiet s.highCheck ∨ s.Raised s.highCheck := by
  rcases highCheck_spec s with ⟨hdue, e⟩ | ⟨-, e⟩ <;> rw [e]
  · obtain ⟨-, -, hclear⟩ := highDue_iff.1 hdue
    obtain ⟨-, hfront⟩ := prioInsert_inserts (frame := highWaterFrame) h false 0
    exact .inr ⟨hclear, rfl, hfront⟩
  · exact .inl (.refl s)

/-- R145 -/
theorem lowCheck_notice (h : 3 ≤ s.cfg.outTotal) : s.Quiet s.lowCheck ∨ s.Lowered s.lowCheck := by
  rcases lowCheck_spec s with ⟨hdue, e⟩ | ⟨-, e⟩ <;> rw [e]
  · obtain ⟨-, -, hset⟩ := lowDue_iff.1 hdue
    obtain ⟨-, hfront⟩ := prioInsert_inserts (frame := lowWaterFrame) h false 0
    exact .inr ⟨hset, rfl, hfront⟩
  · exact .inl (.refl s)

/-- R140: an append to IN is HighCheck on some IN, as far as OUT and the latch are concerned. -/
theorem inAppend_notice (h : 3 ≤ s.cfg.outTotal) (d : Byte) : s.Quiet (s.inAppend d) ∨ s.Raised (s.inAppend d) := by
  rw [State.inAppend]
  rcases evict_spec s with ⟨-, e⟩ | ⟨-, e⟩ <;> rw [e]
  · exact highCheck_notice (s := { s with inb := s.inb.drop s.cfg.evictK ++ [d] }) h
  · exact highCheck_notice (s := { s with inb := s.inb ++ [d] }) h

/-- R223, R224: a received byte counts in the frame, or goes through the filter to IN. -/
theorem receive_notice (h : 3 ≤ s.cfg.outTotal) (rx : Byte) : s.Quiet (s.receive rx) ∨ s.Raised (s.receive rx) := by
  rcases receive_spec s rx with ⟨-, e⟩ | ⟨-, e⟩ <;> rw [e]
  · exact .inl ⟨rfl, rfl, .inl ⟨rfl, Nat.le_succ _⟩⟩
  · rcases filterStep_spec s rx with ⟨d, -, e⟩ | ⟨-, e⟩ <;> rw [e]
    · exact inAppend_notice (s := { s with esc := (unescape rx s.esc).2 }) h d
    · exact .inl (.refl s)

/-- R220 to R222: the draw of the received byte touches the environment only. -/
theorem beginTransaction_state (s : State) (src : Source) :
    ∃ e, (s.beginTransaction src).2 = { (s.clearPending src).transmit with clkArmed := true, env := e } := by
  obtain ⟨e, he, -⟩ := drawPeerByte_state (s.clearPending src).transmit
  exact ⟨e, by rw [State.beginTransaction, he]; rfl⟩

/-- R220 to R224: up to the received byte a transaction only moves the cursor. -/
theorem transaction_notice (h : 3 ≤ s.cfg.outTotal) (src : Source) :
    s.Quiet (s.transaction src) ∨ s.Raised (s.transaction src) := by
  obtain ⟨e, hb⟩ := beginTransaction_state s src
  have hcfg : (s.beginTransaction src).2.cfg = s.cfg := by rw [hb]; cases src <;> rfl
  have hr := receive_notice (by rwa [hcfg]) (s.beginTransaction src).1
  rw [State.transaction]
  generalize (s.beginTransaction src).1 = rx at hr ⊢
  rw [hb] at hr ⊢
  cases src <;> exact hr

end Checks

/-! ### The write path -/

/-- R171 -/
theorem compactIfIdle_eq_compacted (s : State) : s.compactIfIdle = s.compacted := by
  rcases compactIfIdle_spec s with ⟨hi, e⟩ | ⟨hi, e⟩ <;> rw [e, State.compacted]
  · rw [if_pos (inFlight_iff.1 hi), if_pos (inFlight_iff.1 hi)]
  · have hf : ¬ s.pSent < s.pLen := fun hf => by simp [inFlight_iff.2 hf] at hi
    rw [if_neg hf, if_neg hf]
    rfl

/-- R172: WriteCore leaves the source bytes it counts written, and nothing else changed. -/
theorem writeCore_eq_written (s : State) (src : List Byte) :
    (s.writeCore src).2 = s.written src (s.writeCore src).1 := by
  rw [State.writeCore, (writeLoop_spec src s.compactIfIdle).2.1, compactIfIdle_eq_compacted]
  rfl

theorem writeCore_appendsBehind (s : State) (src : List Byte) : s.AppendsBehind (s.writeCore src).2 := by
  rw [writeCore_eq_written]
  exact ⟨rfl, rfl, rfl, _, rfl⟩

/-- R174: whether the pass ends the command or leaves it waiting. -/
theorem writebPass_appendsBehind (s : State) (rem : List Byte) (total : Nat) :
    s.AppendsBehind (s.writebPass rem total) := by
  simp only [State.writebPass]
  split <;> exact writeCore_appendsBehind s rem

/-! ### The other segments -/

section Segments

variable {s : State}

/-- R201 -/
theorem awaitpPass_quiet (s : State) (t : Nat) : s.Quiet (s.awaitpPass t) := by
  unfold State.awaitpPass
  split_ifs
  · exact demote_quiet s
  · exact .refl s
  · exact .refl s

/-- R240: the loop gives up, or sends the version query. -/
theorem initLoop_notice (h : 3 ≤ s.cfg.outTotal) (a : Nat) :
    s.initLoop a = s.initFail ∨ s.Inserts (s.initLoop a) versionFrame := by
  unfold State.initLoop
  split
  · exact .inl rfl
  · exact .inr (prioInsert_inserts (frame := versionFrame) h true s.cfg.verMask)

/-- R241 -/
theorem endRoundTrip_quiet (s : State) : s.Quiet s.endRoundTrip := by
  unfold State.endRoundTrip
  split
  · exact demote_quiet s
  · exact .refl s

/-- R240, R241: a later segment of INIT ends the command or sends the next version query. -/
theorem resumeInit_notice (h : 3 ≤ s.cfg.outTotal) (a : Nat) :
    s.Quiet (s.resumeInit a) ∨ s.Inserts (s.resumeInit a) versionFrame := by
  have hend := endRoundTrip_quiet s
  simp only [State.resumeInit]
  split_ifs
  · exact .inl hend
  · rcases initLoop_notice (s := s.endRoundTrip) (by rwa [endRoundTrip_cfg]) a with e | ⟨hlatch, hfront⟩
    · rw [e]
      exact .inl hend
    · obtain ⟨hkept, -⟩ := endRoundTrip_quiet s
      exact .inr ⟨hlatch.trans hkept, hfront⟩
  · exact .inl hend

/-- R240: INIT's first segment is turned away, or opens a closed core. -/
theorem runInit_notice (h : 3 ≤ s.cfg.outTotal) :
    s.Quiet s.runInit ∨ (s.timerId = none ∧ s.runInit.FreshlyOpened) := by
  simp only [State.runInit]
  split
  · exact .inl (.refl s)
  · next hclosed =>
    split
    · obtain ⟨e, he, -⟩ := drawProbe_state s
      rw [he]
      exact .inl (.refl s)
    · next id _ =>
      refine .inr ⟨by rwa [isOpen_iff, not_not] at hclosed, ?_⟩
      rcases initLoop_notice (s := s.drawProbe.2.openCore id) (by simpa using h) 0 with e | ⟨hlatch, hfront⟩
      · rw [e]
        exact ⟨rfl, .inr ⟨rfl, rfl⟩⟩
      · exact ⟨hlatch, .inl hfront⟩

/-- R150, R151: a read removes from IN and checks. -/
theorem runReadline_notice (h : 3 ≤ s.cfg.outTotal) (delim : Byte) (n : Nat) :
    s.Quiet (s.runReadline delim n) ∨ s.Lowered (s.runReadline delim n) := by
  unfold State.runReadline
  split
  · next j _ => exact lowCheck_notice (s := s.dropInbound (j + 1)) h
  · exact lowCheck_notice h

/-- R200: a frame OUT_TOTAL has no room for is rejected and changes nothing. -/
theorem runEnqp_notice (s : State) (cap : Bool) (mask : Word32) (frame : List Byte) :
    s.Quiet (s.runEnqp cap mask frame) ∨ s.Inserts (s.runEnqp cap mask frame) frame := by
  rcases prioInsert_spec s frame cap mask with ⟨hfits, -⟩ | ⟨-, e⟩
  · exact .inr (prioInsert_inserts hfits cap mask)
  · rw [State.runEnqp, e]
    exact .inl (.refl s)

theorem whenOpen_induction {P : State → Prop} {run : State → State} (hclosed : P (s.finish .closed 0 []))
    (hrun : P (run s)) : P (s.whenOpen run) := by
  rcases whenOpen_spec s run with ⟨-, e⟩ | ⟨-, e⟩ <;> rwa [e]

end Segments

/-! ### The Command unit -/

/-- The ways the first segment of the command `i` can go, as far as OUT and the latch are concerned. -/
inductive CommandNotice (i : Instr) (s t : State) : Prop where
  /-- no frame, and the latch as it was -/
  | quiet (quiet : s.Quiet t)
  /-- R145: READ and READLINE -/
  | lowered (lowered : s.Lowered t)
  /-- R173, R174 -/
  | appended (data : List Byte) (writes : i = .write data ∨ i = .writeb data) (appends : s.AppendsBehind t)
  /-- R200 -/
  | inserted (cap : Bool) (mask : Word32) (frame : List Byte) (enqueues : i = .enqp cap mask frame)
      (inserts : s.Inserts t frame)
  /-- R240 -/
  | opened (inits : i = .init) (wasClosed : s.timerId = none) (fresh : t.FreshlyOpened)

theorem CommandNotice.of_lowCheck {i : Instr} {s t : State} (h : s.Quiet t ∨ s.Lowered t) : CommandNotice i s t :=
  h.elim .quiet .lowered

/-- R84: the first segment of each command. -/
theorem exec_notice {i : Instr} {s t : State} (hroom : 3 ≤ s.cfg.outTotal) (hi : i.isCommand = true)
    (h : exec i s = .next t) : CommandNotice i s t := by
  cases i <;> cases hi <;> cases h
  case init => exact (runInit_notice hroom).elim .quiet fun ⟨hclosed, hfresh⟩ => .opened rfl hclosed hfresh
  case shutdown | rdreg => split <;> exact .quiet (.refl s)
  all_goals refine whenOpen_induction (P := CommandNotice _ s) (.quiet (.refl s)) ?_
  case write data => exact .appended data (.inl rfl) (writeCore_appendsBehind s data)
  case writeb data => exact .appended data (.inr rfl) (writebPass_appendsBehind s data 0)
  case read n => exact .of_lowCheck (lowCheck_notice (s := s.dropInbound (min n.toNat s.inb.length)) hroom)
  case readline delim n => exact .of_lowCheck (runReadline_notice hroom delim n.toNat)
  case enqp cap mask frame =>
    exact (runEnqp_notice s cap mask frame).elim .quiet fun hins => .inserted cap mask frame rfl hins
  case awaitp t => exact .quiet (awaitpPass_quiet s.clearTimeUnits t.toNat)
  case setrate rate =>
    unfold State.runSetrate
    split <;> exact .quiet (.refl s)
  case flush =>
    unfold State.runFlush
    split <;> exact .quiet (.refl s)
  case unread data =>
    unfold State.runUnread
    split <;> exact .quiet (.refl s)
  case wait | avail | rdreply => exact .quiet (.refl s)

/-- R19: a later segment: WRITEB's appends, INIT's may send a version query. -/
theorem resumeCommand_notice {s : State} (hroom : 3 ≤ s.cfg.outTotal) (c : CurCmd) :
    s.Quiet (s.resumeCommand c) ∨
    (∃ rem total, c = .writeb rem total ∧ s.AppendsBehind (s.resumeCommand c)) ∨
    ∃ a, c = .init a ∧ s.Inserts (s.resumeCommand c) versionFrame := by
  unfold State.resumeCommand
  split
  · cases c with
    | wait => exact .inl (.refl s)
    | writeb rem total => exact .inr (.inl ⟨rem, total, rfl, writebPass_appendsBehind s rem total⟩)
    | flush => exact .inl (.refl s)
    | awaitp t => exact .inl (awaitpPass_quiet s t)
    | init a => exact (resumeInit_notice hroom a).imp_right fun hins => .inr ⟨a, rfl, hins⟩
  · exact .inl (.refl s)

/-! ### The step -/

/-- The ways a step can go, as far as OUT and the latch are concerned. -/
inductive NoticeStep (s t : State) : Prop where
  /-- no frame, and the latch as it was -/
  | quiet (quiet : s.Quiet t)
  /-- R142: an append to IN, in a transaction -/
  | raised (raised : s.Raised t)
  /-- R145: a READ or a READLINE -/
  | lowered (lowered : s.Lowered t)
  /-- R172 -/
  | appended (segment : s.WriteSegment) (appends : s.AppendsBehind t)
  /-- R200 -/
  | inserted (cap : Bool) (mask : Word32) (frame : List Byte) (takes : s.Takes (.enqp cap mask frame))
      (inserts : s.Inserts t frame)
  /-- R241: a waiting INIT goes on to its next attempt -/
  | queried (a : Nat) (continues : s.Continues (.init a)) (inserts : s.Inserts t versionFrame)
  /-- R240: INIT opens a closed core -/
  | opened (takes : s.Takes .init) (wasClosed : s.timerId = none) (fresh : t.FreshlyOpened)

theorem timerEvent_quiet (s : State) : s.Quiet s.timerEvent := by
  unfold State.timerEvent
  split <;> exact .refl s

theorem linkChangeEvent_quiet (s : State) : s.Quiet s.linkChangeEvent := by
  unfold State.linkChangeEvent
  split <;> exact .refl s

/-- Every step is one of these, by the ways a step can go (`step_spec`); a draw touches the environment only. -/
theorem step_notice {s t : State} (hroom : 3 ≤ s.cfg.outTotal) (h : step s = .next t) : NoticeStep s t := by
  obtain ⟨e, he, -⟩ := drawTurn_state s
  have hstep := step_spec h
  rw [he] at hstep
  rcases hstep with ⟨-, rfl⟩ | ⟨-, rfl⟩ | ⟨-, rfl⟩ | ⟨-, rfl⟩ | ⟨-, rfl⟩ |
    ⟨src, -, ⟨-, rfl⟩ | ⟨-, rfl⟩⟩ | ⟨c, ht, hc, rfl⟩ |
    ⟨ht, hc, ⟨i, rest, hr, hdec, hx⟩ | ⟨why, rest, -, -, rfl⟩ | ⟨-, rfl⟩⟩
  · exact .quiet (.refl s)
  · exact .quiet (timerEvent_quiet { s with env := e })
  · exact .quiet (linkChangeEvent_quiet { s with env := e })
  · exact .quiet (.refl s)
  · exact .quiet (.refl s)
  · rcases transaction_notice (s := { s with env := e }) hroom src with hq | hup
    · exact .quiet hq
    · exact .raised hup
  · exact .quiet (.refl s)
  · rcases resumeCommand_notice (s := { s with env := e }) hroom c with
      hq | ⟨rem, total, rfl, happ⟩ | ⟨a, rfl, hins⟩
    · exact .quiet hq
    · exact .appended (.inr ⟨rem, total, ht, hc⟩) happ
    · exact .queried a ⟨ht, hc⟩ hins
  · have htakes : s.Takes i := ⟨ht, hc, hr, rest, hdec⟩
    cases exec_notice (s := State.withHostBytes { s with env := e } rest) hroom (isCommand_of_decode hdec) hx with
    | quiet quiet => exact .quiet quiet
    | lowered lowered => exact .lowered lowered
    | appended data writes appends =>
      refine .appended (.inl ⟨data, ?_⟩) appends
      rcases writes with rfl | rfl
      · exact .inl htakes
      · exact .inr htakes
    | inserted cap mask frame enqueues inserts => exact .inserted cap mask frame (enqueues ▸ htakes) inserts
    | opened inits wasClosed fresh => exact .opened (inits ▸ htakes) wasClosed fresh
  · exact .quiet (.refl s)
  · exact .quiet (.refl s)

/-- A step that keeps the latch has only the last clause of R146's claim to meet. -/
theorem alternate_of_latch_kept {s t : State} {high low kept : Prop} (hlatch : t.wmLatch = s.wmLatch) (h : kept) :
    (s.wmLatch = false → t.wmLatch = true → high) ∧ (s.wmLatch = true → t.wmLatch = false → low) ∧
    (t.wmLatch = s.wmLatch → kept) := by
  refine ⟨fun hs ht => ?_, fun hs ht => ?_, fun _ => h⟩ <;>
    · rw [hlatch, hs] at ht
      cases ht

/-- Settles O20: the steps that write the latch send their notice, and the others that insert a frame are ENQP's and
INIT's (`step_notice`). -/
theorem noticesAlternate : Obligations.NoticesAlternate := by
  unfold Obligations.NoticesAlternate
  intro s t hs h
  cases step_notice hs.params.outTotal_ge h with
  | quiet quiet =>
    obtain ⟨latch, kept⟩ := quiet
    exact alternate_of_latch_kept latch (.inl kept)
  | raised raised =>
    obtain ⟨wasClear, isSet, front⟩ := raised
    exact ⟨fun _ _ => front, by simp [wasClear], by simp [wasClear, isSet]⟩
  | lowered lowered =>
    obtain ⟨wasSet, isClear, front⟩ := lowered
    exact ⟨by simp [wasSet], fun _ _ => .inl front, by simp [wasSet, isClear]⟩
  | appended segment appends =>
    obtain ⟨latch, appends⟩ := appends
    exact alternate_of_latch_kept latch (.inr (.inl ⟨segment, appends⟩))
  | inserted cap mask frame takes inserts =>
    obtain ⟨latch, front⟩ := inserts
    exact alternate_of_latch_kept latch (.inr (.inr (.inl ⟨cap, mask, frame, takes, front⟩)))
  | queried a continues inserts =>
    obtain ⟨latch, front⟩ := inserts
    exact alternate_of_latch_kept latch (.inr (.inr (.inr ⟨.inr ⟨a, continues⟩, .inl front⟩)))
  | opened takes wasClosed fresh =>
    obtain ⟨isClear, front⟩ := fresh
    exact ⟨by simp [isClear], fun _ _ => .inr ⟨takes, wasClosed⟩,
      fun _ => .inr (.inr (.inr ⟨.inl takes, front⟩))⟩

end Sys2Proof.Machine
end

section
/-! The write commands and FLUSH (R172 to R176): the count of bytes WriteCore reports is the longest prefix that fits
(R176), each segment of WRITE and WRITEB is one WriteCore, and FLUSH ends where OUT is drained. -/

namespace Sys2Proof.Machine

/-! ### The longest prefix that fits (R176) -/

/-- R136: sizes of expansions add up. -/
theorem expandedSize_append (xs ys : List Byte) : expandedSize (xs ++ ys) = expandedSize xs + expandedSize ys := by
  simp only [← length_flatMap_escape, List.flatMap_append, List.length_append]

/-- R136: one byte more adds its expansion, and what follows it makes the size no smaller. -/
theorem expandedSize_take_add_escape_le {src : List Byte} {k j : Nat} {b : Byte} (hb : src[k]? = some b)
    (hj : k < j) : expandedSize (src.take k) + (escape b).length ≤ expandedSize (src.take j) := by
  have hnext : src.take (k + 1) = src.take k ++ [b] := by rw [List.take_add_one, hb, Option.toList_some]
  obtain ⟨rest, hrest⟩ : src.take (k + 1) <+: src.take j := List.take_prefix_take_left hj
  calc expandedSize (src.take k) + (escape b).length
      = expandedSize (src.take (k + 1)) := by
        rw [hnext, expandedSize_append, ← length_flatMap_escape [b], List.flatMap_singleton]
    _ ≤ expandedSize (src.take j) := by rw [← hrest, expandedSize_append]; exact Nat.le_add_right _ _

/-- R172: what OUT holds once the first `k` bytes are written. -/
theorem written_out_length (s : State) (src : List Byte) (k : Nat) :
    (s.written src k).out.length = s.compacted.out.length + expandedSize (src.take k) := by
  rw [← length_flatMap_escape]
  exact List.length_append

/-- R172: WriteCore is its loop from the compacted state. -/
theorem writeLoop_compactIfIdle (s : State) (src : List Byte) : s.compactIfIdle.writeLoop src = s.writeCore src := rfl

/-- R176: the loop stops only at the end of the source or at a byte whose expansion does not fit, and no prefix beyond
that byte is smaller than the one that ends with it. -/
theorem writeCore_longestPrefix (s : State) (src : List Byte) : s.LongestPrefix src (s.writeCore src).1 := by
  obtain ⟨hle, -, hfits, hstop⟩ := writeLoop_spec src s.compactIfIdle
  have hlength := written_out_length s src (s.writeCore src).1
  rw [← writeCore_eq_written] at hlength
  simp only [writeLoop_compactIfIdle, compactIfIdle_cfg, hlength] at hle hfits hstop
  refine ⟨hle, or_iff_not_imp_left.2 hfits, fun j hj hjle => ?_⟩
  have hb := List.getElem?_eq_getElem (hj.trans_le hjle)
  have hover := hstop _ hb
  have hsize := expandedSize_take_add_escape_le hb hj
  omega

/-! ### WRITE (R173) -/

/-- Settles O38: WRITE reports the count WriteCore accepted, and leaves what WriteCore left. -/
theorem writeAcceptsLongestPrefix : Obligations.WriteAcceptsLongestPrefix := by
  unfold Obligations.WriteAcceptsLongestPrefix
  intro s data hopen
  refine ⟨(s.writeCore data).1, writeCore_longestPrefix s data, ?_⟩
  rw [← writeCore_eq_written]
  exact congrArg Host.Outcome.next (whenOpen_of_open hopen _)

/-! ### A later segment (R19, R84) -/

/-- R19: the Command unit's step with a command waiting whose condition holds. -/
theorem step_resumes {s : State} {c : CurCmd} (ht : s.drawTurn.1 = .command) (hc : s.curCmd = some c)
    (hholds : s.awaitHolds c = true) : step s = .next (s.drawTurn.2.resumeSegment c) := by
  rw [step_waiting ht hc, State.resumeCommand, if_pos ((drawTurn_awaitHolds s c).trans hholds)]

/-! ### WRITEB (R174) -/

/-- R174: a pass ends the command when WriteCore has accepted every byte left, and waits otherwise. -/
theorem writebPass_spec (s : State) (rem : List Byte) (total : Nat) :
    s.WritebPass rem total (s.writebPass rem total) := by
  have hlongest := writeCore_longestPrefix s rem
  refine ⟨(s.writeCore rem).1, hlongest, ?_⟩
  rw [← writeCore_eq_written, State.writebPass]
  rcases hlongest.1.eq_or_lt with hall | hleft
  · exact .inl ⟨hall, if_pos (List.drop_eq_nil_of_le hall.ge)⟩
  · have hdrop : rem.drop (s.writeCore rem).1 ≠ [] := by rwa [ne_eq, List.drop_eq_nil_iff, not_le]
    exact .inr ⟨hleft, if_neg hdrop⟩

/-- Settles O39: the first segment and every later one are the same pass. -/
theorem writebPasses : Obligations.WritebPasses := by
  unfold Obligations.WritebPasses
  constructor
  · intro s data hopen
    exact ⟨_, congrArg Host.Outcome.next (whenOpen_of_open hopen _), writebPass_spec s data 0⟩
  · intro s rem total ht hc htick
    exact ⟨_, step_resumes ht hc htick, writebPass_spec s.drawTurn.2 rem total⟩

/-! ### FLUSH (R175) -/

/-- Settles O40: the first segment by its test, a later one by its await, which is the same condition. -/
theorem flushWaitsUntilDrained : Obligations.FlushWaitsUntilDrained := by
  unfold Obligations.FlushWaitsUntilDrained
  refine fun s => ⟨fun hopen hdrained => ?_, fun hopen hleft => ?_, fun ht hc hdrained => ?_⟩
  · have hflush : s.runFlush = s.finish .ok 0 [] := if_pos (drained_iff.2 hdrained)
    exact congrArg Host.Outcome.next ((whenOpen_of_open hopen _).trans hflush)
  · have hflush : s.runFlush = s.await .flush := if_neg (mt drained_iff.1 hleft)
    exact congrArg Host.Outcome.next ((whenOpen_of_open hopen _).trans hflush)
  · exact step_resumes ht hc (drained_iff.2 hdrained)

end Sys2Proof.Machine
end

section
/-! The priority channel (R190 to R195, R200, R201, R203 to R205, R223): the priority commands, a transaction in a
frame, and what the transactions after an insertion send and capture. -/

namespace Sys2Proof.Machine

/-! ### ENQP and RDREPLY (R190, R200, R203) -/

/-- R192, R200: ENQP's segment with a frame OUT_TOTAL has no room for. -/
theorem runEnqp_of_not_fits {s : State} {frame : List Byte} (h : s.cfg.outTotal < frame.length) (cap : Bool)
    (mask : Word32) : s.runEnqp cap mask frame = s.finish .priorityRejected 0 [] := by
  rcases prioInsert_spec s frame cap mask with ⟨hfits, -⟩ | ⟨-, e⟩
  · omega
  · rw [State.runEnqp, e]
    rfl

/-- R200: an ENQP an open core accepts. -/
theorem exec_enqp_of_fits {s : State} (ho : s.isOpen = true) {frame : List Byte} (h : frame.length ≤ s.cfg.outTotal)
    (cap : Bool) (mask : Word32) :
    exec (.enqp cap mask frame) s = .next ((s.framed frame cap mask).finish .ok 0 []) :=
  congrArg Host.Outcome.next (whenOpen_runEnqp ho h cap mask)

/-- Settles O41: the two outcomes of PrioInsert. -/
theorem enqpInsertsOrRejects : Obligations.EnqpInsertsOrRejects := by
  unfold Obligations.EnqpInsertsOrRejects
  refine fun s cap mask frame ho => ⟨fun hfits => exec_enqp_of_fits ho hfits cap mask, fun hlong => ?_⟩
  exact congrArg Host.Outcome.next ((whenOpen_of_open ho _).trans (runEnqp_of_not_fits hlong cap mask))

/-- Settles O45: RDREPLY's segment in an open core. -/
theorem rdreplyResult : Obligations.RdreplyResult := by
  unfold Obligations.RdreplyResult
  exact fun s n ho => congrArg Host.Outcome.next (whenOpen_of_open ho _)

/-! ### AWAITP (R201) -/

theorem inFlight_eq_false_iff {s : State} : s.inFlight = false ↔ s.pLen ≤ s.pSent := by
  rw [← Bool.not_eq_true, inFlight_iff, Nat.not_lt]

/-- R201: completion is tested first. -/
theorem awaitpPass_of_complete {s : State} (h : s.inFlight = false) (t : Nat) :
    s.awaitpPass t = s.finish .ok 0 [] := by
  rw [State.awaitpPass, h]
  rfl

theorem awaitpPass_of_timedOut {s : State} {t : Nat} (hf : s.inFlight = true) (ht : s.timedOut t = true) :
    s.awaitpPass t = s.demoted.finish .priorityTimeout 0 [] := by
  rw [State.awaitpPass, if_pos hf, if_pos ht]
  rfl

theorem awaitpPass_of_waiting {s : State} {t : Nat} (hf : s.inFlight = true) (ht : s.timedOut t = false) :
    s.awaitpPass t = s.await (.awaitp t) := by
  rw [State.awaitpPass, if_pos hf, ht]
  rfl

/-- R201: no time-out is over while no time-unit is counted. -/
theorem clearTimeUnits_timedOut (s : State) (t : Nat) : s.clearTimeUnits.timedOut t = false := by
  rw [← Bool.not_eq_true, timedOut_iff]
  rintro ⟨hne, hle⟩
  exact hne (Nat.le_zero.1 hle)

/-- Settles O43: the first pass runs with the count cleared, so that it cannot time out. -/
theorem awaitpFirstSegment : Obligations.AwaitpFirstSegment := by
  unfold Obligations.AwaitpFirstSegment
  refine fun s t ho => ⟨fun hdone => ?_, fun hflight => ?_⟩ <;>
    refine congrArg Host.Outcome.next ((whenOpen_of_open ho _).trans ?_)
  · exact awaitpPass_of_complete (s := s.clearTimeUnits) (inFlight_eq_false_iff.2 hdone) t.toNat
  · exact awaitpPass_of_waiting (s := s.clearTimeUnits) (inFlight_iff.2 hflight) (clearTimeUnits_timedOut s t.toNat)

theorem drawTurn_timedOut (s : State) (t : Nat) : s.drawTurn.2.timedOut t = s.timedOut t := by
  obtain ⟨e, he, -⟩ := drawTurn_state s
  rw [he]
  rfl

/-- Settles O44: either condition ends the await, and the pass that follows tests completion before the time-out. -/
theorem awaitpCompletesOrTimesOut : Obligations.AwaitpCompletesOrTimesOut := by
  unfold Obligations.AwaitpCompletesOrTimesOut
  refine fun s t ht hc => ⟨fun hdone => ?_, fun hflight hne hle => ?_⟩
  · have hi : s.inFlight = false := inFlight_eq_false_iff.2 hdone
    have hholds : s.awaitHolds (.awaitp t) = true := by simp [State.awaitHolds, hi]
    rw [step_resumes ht hc hholds, State.resumeSegment, awaitpPass_of_complete ((drawTurn_inFlight s).trans hi)]
  · have hi : s.inFlight = true := inFlight_iff.2 hflight
    have hto : s.timedOut t = true := timedOut_iff.2 ⟨hne, hle⟩
    have hholds : s.awaitHolds (.awaitp t) = true := by simp [State.awaitHolds, hto]
    rw [step_resumes ht hc hholds, State.resumeSegment,
      awaitpPass_of_timedOut ((drawTurn_inFlight s).trans hi) ((drawTurn_timedOut s t).trans hto)]

/-! ### A received byte in a frame (R194, R223) -/

/-- R220: while a frame is in flight a received byte goes to the frame. -/
theorem receive_of_frame {s : State} (h : s.pSent < s.pLen) (rx : Byte) : s.receive rx = s.priorityStep rx := by
  rcases receive_spec s rx with ⟨-, e⟩ | ⟨hi, -⟩
  · exact e
  · exact absurd (inFlight_eq_false_iff.1 hi) (Nat.not_le.2 h)

/-- R223: the clock after step 4 is off exactly if it was, or if the mask names the offset. -/
theorem armed_after_priorityStep (s : State) :
    (if s.suspends then false else s.clkArmed) = false ↔ s.clkArmed = false ∨ s.suspendsHere := by
  rw [State.suspendsHere, ← suspends_iff]
  cases s.suspends <;> simp

/-- Settles O29: in either escape state the row of a byte is that byte's step 4. -/
theorem receivedRowsInFrame : Obligations.ReceivedRowsInFrame := by
  unfold Obligations.ReceivedRowsInFrame
  intro s i b hflight hrow
  have hexec : exec i s = .next (s.priorityStep b) := by
    rw [← receive_of_frame hflight]
    rcases hrow with ⟨rfl, rfl⟩ | ⟨rfl, rfl⟩ | ⟨rfl, rfl⟩ | rfl | rfl <;> rfl
  exact ⟨_, armed_after_priorityStep s, hexec⟩

/-! ### A transaction in a frame (R220 to R223) -/

/-- R220: the served source's bit is cleared and the other one kept. -/
theorem clearPending_eq_served (s : State) (src : Source) : s.clearPending src = s.served src := by cases src <;> rfl

/-- R221: step 1, with the cursor's test as the rule states it. -/
theorem transmit_eq (s : State) : s.transmit = { s with
    outCur := if s.outCur < s.out.length then s.outCur + 1 else s.outCur
    env := { s.env with wire := s.env.wire ++ [s.nextByte] } } := by
  rw [State.transmit, txByte_eq_nextByte]
  simp only [txQueued_iff]

/-- R222: the received byte is the Peer's next one whatever step 1 sends. -/
theorem drawPeerByte_of_wire {s u : State} {wire : List Byte} (h : u.env = { s.env with wire := wire }) :
    u.drawPeerByte = (s.drawPeerByte.1, { u with env := { s.drawPeerByte.2.env with wire := wire } }) := by
  unfold State.drawPeerByte
  rw [h]
  cases s.env.peerBytes <;> rfl

/-- R220 to R222: the transaction up to the received byte. -/
theorem beginTransaction_eq (s : State) (src : Source) :
    s.beginTransaction src = (s.drawPeerByte.1, { s.served src with
      outCur := if s.outCur < s.out.length then s.outCur + 1 else s.outCur
      clkArmed := true
      env := { s.drawPeerByte.2.env with wire := s.env.wire ++ [s.nextByte] } }) := by
  have henv : (s.served src).transmit.env = { s.env with wire := s.env.wire ++ [s.nextByte] } := by
    rw [transmit_eq]
    rfl
  rw [State.beginTransaction, clearPending_eq_served, drawPeerByte_of_wire henv, transmit_eq]
  rfl

/-- R220 to R223: the whole transaction while a frame is in flight and a byte is queued at the cursor. -/
theorem transaction_of_frame {s : State} (hf : s.pSent < s.pLen) (hq : s.outCur < s.out.length) (src : Source) :
    s.transaction src = { s.served src with
      outCur := s.outCur + 1
      clkArmed := if s.suspends then false else true
      rpl := if 2 ≤ s.pSent ∧ s.pCap = true then s.rpl.set s.pSent s.drawPeerByte.1 else s.rpl
      pSent := s.pSent + 1
      tickSeen := true
      env := { s.drawPeerByte.2.env with wire := s.env.wire ++ [s.nextByte] } } := by
  rw [State.transaction, beginTransaction_eq, if_pos hq, receive_of_frame (by exact hf)]
  rfl

/-! ### The transactions after an insertion (R204, R229) -/

/-- R190: the whole frame is in OUT once it is inserted. -/
theorem framed_out_length_ge (s : State) (frame : List Byte) (cap : Bool) (mask : Word32) :
    frame.length ≤ (s.framed frame cap mask).out.length := by
  simp only [State.framed, List.length_append, Nat.le_add_right]

/-- What holds at a frame's insertion, and after each transaction for one byte more, holds after any number of
transactions the frame has bytes for. -/
theorem transactions_induction {t : State} {n : Nat} {P : Nat → State → Prop} (hstart : P 0 t)
    (hnext : ∀ k u src, k < n → P k u → P (k + 1) (u.transaction src)) (srcs : List Source) (hn : srcs.length ≤ n) :
    P srcs.length (srcs.foldl State.transaction t) := by
  induction srcs using List.reverseRecOn with
  | nil => exact hstart
  | append_singleton srcs src ih =>
    rw [List.length_append, List.length_singleton] at hn ⊢
    rw [List.foldl_append]
    exact hnext _ _ src hn (ih (Nat.le_of_succ_le hn))

/-- R204, R229: `u` follows `t` with the first `k` bytes of OUT sent as bytes of the frame in flight, and OUT, IN, ESC
and the frame's length and capturing as `t` has them. -/
structure State.FrameSent (t : State) (k : Nat) (u : State) : Prop where
  wire : u.env.wire = t.env.wire ++ t.out.take k
  pSent : u.pSent = k
  outCur : u.outCur = k
  out : u.out = t.out
  inb : u.inb = t.inb
  esc : u.esc = t.esc
  pLen : u.pLen = t.pLen
  pCap : u.pCap = t.pCap

namespace State.FrameSent

variable {t u : State} {k : Nat}

theorem zero (hsent : t.pSent = 0) (hcur : t.outCur = 0) : t.FrameSent 0 t where
  wire := (List.append_nil _).symm
  pSent := hsent
  outCur := hcur
  out := rfl
  inb := rfl
  esc := rfl
  pLen := rfl
  pCap := rfl

/-- R221: the next byte to be sent is the frame's next one. -/
theorem nextByte (h : t.FrameSent k u) (hk : k < t.out.length) : u.nextByte = t.out[k] := by
  rw [State.nextByte, h.out, h.outCur, if_pos hk, List.getD_eq_getElem _ _ hk]

/-- R45, R53 item 4: with bytes of the frame left, it is in flight and its next byte is at the cursor. -/
theorem inFrame (h : t.FrameSent k u) (hk : k < t.pLen) (hout : t.pLen ≤ t.out.length) :
    u.pSent < u.pLen ∧ u.outCur < u.out.length := by
  rw [h.pSent, h.pLen, h.outCur, h.out]
  exact ⟨hk, hk.trans_le hout⟩

theorem transaction (h : t.FrameSent k u) (hk : k < t.pLen) (hout : t.pLen ≤ t.out.length) (src : Source) :
    t.FrameSent (k + 1) (u.transaction src) := by
  have hlt : k < t.out.length := hk.trans_le hout
  obtain ⟨hflight, hqueued⟩ := h.inFrame hk hout
  rw [transaction_of_frame hflight hqueued]
  exact {
    wire := by simp only [h.wire, h.nextByte hlt, List.append_assoc, List.take_concat_get' _ _ hlt]
    pSent := congrArg (· + 1) h.pSent
    outCur := congrArg (· + 1) h.outCur
    out := h.out
    inb := h.inb
    esc := h.esc
    pLen := h.pLen
    pCap := h.pCap }

end State.FrameSent

/-- Settles O46: one byte of the frame per transaction, from ENQP's insertion on. -/
theorem frameIsNextOnTheWire : Obligations.FrameIsNextOnTheWire := by
  unfold Obligations.FrameIsNextOnTheWire
  intro s t cap mask frame srcs ho hfits hsrcs hexec
  rw [exec_enqp_of_fits ho hfits] at hexec
  cases hexec
  have hout := framed_out_length_ge s frame cap mask
  have hsent := transactions_induction (P := ((s.framed frame cap mask).finish .ok 0 []).FrameSent) (n := frame.length)
    (.zero rfl rfl) (fun _ _ src hk h => h.transaction hk hout src) srcs hsrcs
  refine ⟨?_, hsent.pSent, hsent.outCur, hsent.out, hsent.inb, hsent.esc⟩
  exact hsent.wire.trans (congrArg (s.env.wire ++ ·) (List.take_append_of_le_length hsrcs))

/-! ### The reply a frame captures (R194, R205) -/

/-- R205: RPL, holding `old` at the insertion, once `k` bytes of a capturing frame are sent and the first `k` of
`replies` received: the header's two offsets are kept, and the later ones up to `k` hold what came at them. -/
def capturedReply (old replies : List Byte) (k : Nat) : List Byte :=
  old.take hdrLen ++ (replies.take k).drop hdrLen ++ old.drop (max hdrLen k)

/-- R194: the header's bytes receive nothing. -/
theorem capturedReply_of_header {old replies : List Byte} {k : Nat} (h : k ≤ hdrLen) :
    capturedReply old replies k = old := by
  have hnone : (replies.take k).drop hdrLen = [] := List.drop_eq_nil_of_le ((List.length_take_le _ _).trans h)
  rw [capturedReply, hnone, max_eq_left h, List.append_nil, List.take_append_drop]

/-- R194: beyond the header the byte received is stored at its own offset. -/
theorem set_capturedReply {old replies : List Byte} {k : Nat} (hk : hdrLen ≤ k) (hold : k < old.length)
    (hreplies : k < replies.length) :
    (capturedReply old replies k).set k replies[k] = capturedReply old replies (k + 1) := by
  have hfront : (old.take hdrLen ++ (replies.take k).drop hdrLen).length = k := by
    simp only [List.length_append, List.length_take, List.length_drop, hdrLen] at hk ⊢
    omega
  have hheader : hdrLen ≤ (replies.take k).length := by
    rw [List.length_take]
    omega
  have hreceived : (replies.take (k + 1)).drop hdrLen = (replies.take k).drop hdrLen ++ [replies[k]] := by
    rw [← List.take_concat_get' _ _ hreplies, List.drop_append_of_le_length hheader]
  rw [capturedReply, capturedReply, max_eq_right hk, max_eq_right (Nat.le_succ_of_le hk), hreceived,
    List.drop_eq_getElem_cons hold, List.set_append_right _ _ hfront.le, hfront, Nat.sub_self, List.set_cons_zero]
  simp only [List.append_assoc, List.singleton_append]

/-- R194, R205: RPL at the end of a frame that was preloaded into it. -/
theorem capturedReply_preloaded (frame replies rest : List Byte) (h : replies.length = frame.length) :
    capturedReply (frame ++ rest) replies frame.length = frame.take 2 ++ replies.drop 2 ++ rest := by
  rcases Nat.le_total frame.length hdrLen with hshort | hlong
  · have hnone : replies.drop 2 = [] := List.drop_eq_nil_of_le (h.trans_le hshort)
    have hwhole : frame.take 2 = frame := List.take_of_length_le hshort
    rw [capturedReply_of_header hshort, hnone, hwhole, List.append_nil]
  · rw [capturedReply, max_eq_right hlong, List.take_append_of_le_length hlong, List.take_of_length_le h.le,
      List.drop_left]
    rfl

/-- R205: `u` is `t` with the first `k` bytes of a capturing frame sent, the first `k` of `replies` received for them,
and the rest of `replies`, then `later`, still to come. -/
structure State.ReplyCaptured (t : State) (replies later : List Byte) (k : Nat) (u : State) : Prop
    extends t.FrameSent k u where
  peerBytes : u.env.peerBytes = replies.drop k ++ later
  rpl : u.rpl = capturedReply t.rpl replies k

namespace State.ReplyCaptured

variable {t u : State} {replies later : List Byte} {k : Nat}

theorem zero (hsent : t.pSent = 0) (hcur : t.outCur = 0) (hpeer : t.env.peerBytes = replies ++ later) :
    t.ReplyCaptured replies later 0 t where
  toFrameSent := .zero hsent hcur
  peerBytes := hpeer
  rpl := (capturedReply_of_header (Nat.zero_le _)).symm

/-- R222: the byte received for offset `k` is the reply's byte there. -/
theorem drawPeerByte_eq (h : t.ReplyCaptured replies later k u) (hk : k < replies.length) :
    u.drawPeerByte = (replies[k], { u with env := { u.env with peerBytes := replies.drop (k + 1) ++ later } }) := by
  rw [State.drawPeerByte, h.peerBytes, List.drop_eq_getElem_cons hk]
  rfl

theorem transaction (h : t.ReplyCaptured replies later k u) (hcap : t.pCap = true) (hk : k < t.pLen)
    (hout : t.pLen ≤ t.out.length) (hrpl : t.pLen ≤ t.rpl.length) (hreplies : t.pLen ≤ replies.length)
    (src : Source) : t.ReplyCaptured replies later (k + 1) (u.transaction src) := by
  have hreply : k < replies.length := hk.trans_le hreplies
  obtain ⟨hflight, hqueued⟩ := h.inFrame hk hout
  refine ⟨h.toFrameSent.transaction hk hout src, ?_, ?_⟩ <;>
    rw [transaction_of_frame hflight hqueued, h.drawPeerByte_eq hreply]
  rw [h.pSent, h.pCap, h.rpl]
  by_cases hoffset : hdrLen ≤ k
  · exact (if_pos ⟨hoffset, hcap⟩).trans (set_capturedReply hoffset (hk.trans_le hrpl) hreply)
  · rw [capturedReply_of_header (Nat.le_of_not_le hoffset), capturedReply_of_header (Nat.not_le.1 hoffset)]
    exact if_neg fun hstored => hoffset hstored.1

end State.ReplyCaptured

/-- Settles O47: one byte of the reply per transaction, from the preloading of RPL on. -/
theorem replyIsCapturedByPosition : Obligations.ReplyIsCapturedByPosition := by
  unfold Obligations.ReplyIsCapturedByPosition
  intro s t mask frame replies later srcs ho hfits hreplies hsrcs hpeer hexec
  rw [exec_enqp_of_fits ho hfits] at hexec
  cases hexec
  have hout := framed_out_length_ge s frame true mask
  have hrpl : frame.length ≤ (frame ++ s.rpl.drop frame.length).length := by
    rw [List.length_append]
    exact Nat.le_add_right _ _
  have hcaptured := transactions_induction
    (P := ((s.framed frame true mask).finish .ok 0 []).ReplyCaptured replies later) (n := frame.length)
    (.zero rfl rfl hpeer) (fun _ _ src hk h => h.transaction rfl hk hout hrpl hreplies.ge src) srcs hsrcs.le
  refine ⟨?_, hcaptured.inb⟩
  rw [hcaptured.rpl, hsrcs]
  exact capturedReply_preloaded frame replies (s.rpl.drop frame.length) hreplies

end Sys2Proof.Machine
end

section
/-! The whole of a transaction (R220 to R224), in a frame and outside one: the steps up to the received byte
(`beginTransaction_eq`) are the same, and the byte's own step tells the two apart. -/

namespace Sys2Proof.Machine

/-- R222, R223: from a clock just armed, step 4 leaves it off exactly if the mask names the offset. -/
theorem armed_in_frame (s : State) : (if s.suspends then false else true) = false ↔ s.suspendsHere :=
  (armed_after_priorityStep { s with clkArmed := true }).trans (or_iff_right Bool.noConfusion)

/-- Settles O49: the transaction's equation in a frame, with the clock it leaves. -/
theorem transactionInFrame : Obligations.TransactionInFrame := by
  unfold Obligations.TransactionInFrame
  intro s src hflight hqueued
  exact ⟨_, armed_in_frame s, transaction_of_frame hflight hqueued src⟩

/-- Settles O50: by what the filter makes of the received byte, which the earlier steps leave to be read with the old
ESC. -/
theorem transactionOutsideFrame : Obligations.TransactionOutsideFrame := by
  unfold Obligations.TransactionOutsideFrame
  intro s src hsent hroom
  rw [State.transaction, beginTransaction_eq]
  rcases hfilter : unescape s.drawPeerByte.1 s.esc with ⟨_ | d, esc⟩ <;> refine congrArg State.endTransaction ?_
  case none => exact receive_silent (by exact hsent) (by exact hfilter)
  case some => exact receive_emitted (by exact hsent) (by exact hroom) (by exact hfilter)

end Sys2Proof.Machine
end

section
/-! The control commands (R240 to R246): INIT's first segment and the outcome of each of its version round trips,
SHUTDOWN, SETRATE and WAIT. -/

namespace Sys2Proof.Machine

/-! ### The version round trip (R240, R241) -/

/-- R240: with its budget spent, INIT's loop closes the core. -/
theorem initLoop_of_exhausted {s : State} {a : Nat} (h : a = s.cfg.initRetries) :
    s.initLoop a = s.shut.finish .deviceNotResponding 0 [] := if_pos h

/-- R240, R241: with budget left, INIT's loop sends the version query, captured, and waits in the next attempt. -/
theorem initLoop_of_budget {s : State} {a : Nat} (hroom : 3 ≤ s.cfg.outTotal) (h : a ≠ s.cfg.initRetries) :
    s.initLoop a = { s.framed [0x5C, 0x76, 0x00] true s.cfg.verMask with
      tuCount := 0, curCmd := some (.init (a + 1)) } := by
  rw [State.initLoop, if_neg h, State.startRoundTrip, prioInsert_of_fits (frame := versionFrame) hroom]
  rfl

/-- R241: a round trip that completed needs no demotion. -/
theorem endRoundTrip_of_complete {s : State} (h : s.inFlight = false) : s.endRoundTrip = s := by
  simp [State.endRoundTrip, h]

/-- R241: a round trip still in flight when its await ends has timed out. -/
theorem endRoundTrip_of_inFlight {s : State} (h : s.inFlight = true) : s.endRoundTrip = s.demoted := if_pos h

/-- R19, R241: the step in which the round trip of attempt `a` ends, completed or timed out. -/
theorem step_ends_roundTrip {s e : State} {a : Nat} (ht : s.drawTurn.1 = .command) (hc : s.curCmd = some (.init a))
    (hend : (s.pLen ≤ s.pSent ∧ e = s.drawTurn.2) ∨
      (s.pSent < s.pLen ∧ s.cfg.initTimeout ≠ 0 ∧ s.cfg.initTimeout ≤ s.tuCount.toNat ∧
        e = s.drawTurn.2.demoted)) :
    step s = .next (s.drawTurn.2.resumeInit a) ∧ s.drawTurn.2.endRoundTrip = e := by
  rcases hend with ⟨hdone, rfl⟩ | ⟨hflight, hne, hle, rfl⟩
  · have hi : s.inFlight = false := inFlight_eq_false_iff.2 hdone
    have hholds : s.awaitHolds (.init a) = true := by simp [State.awaitHolds, hi]
    exact ⟨step_resumes ht hc hholds, endRoundTrip_of_complete ((drawTurn_inFlight s).trans hi)⟩
  · have hi : s.inFlight = true := inFlight_iff.2 hflight
    have hto : s.timedOut s.cfg.initTimeout = true := timedOut_iff.2 ⟨hne, hle⟩
    have hholds : s.awaitHolds (.init a) = true := by simp [State.awaitHolds, hto]
    exact ⟨step_resumes ht hc hholds, endRoundTrip_of_inFlight ((drawTurn_inFlight s).trans hi)⟩

theorem endRoundTrip_rpl (s : State) : s.endRoundTrip.rpl = s.rpl := by
  unfold State.endRoundTrip
  split <;> rfl

theorem drawTurn_rpl (s : State) : s.drawTurn.2.rpl = s.rpl := by
  obtain ⟨e, he, -⟩ := drawTurn_state s
  rw [he]

/-- R240: how the byte at RPL[2] decides INIT's segment after a round trip. -/
theorem resumeInit_of_byte {s : State} {v : Byte} (hv : s.rpl[2]? = some v) (a : Nat) :
    s.resumeInit a =
      if v = 0x00 then s.endRoundTrip.initFail
      else if v = 0xFF then s.endRoundTrip.initLoop a
      else State.finish { s.endRoundTrip with version := v } .ok (v.setWidth 32) [] := by
  have hread : s.endRoundTrip.rpl.getD 2 0 = v := by
    rw [endRoundTrip_rpl, List.getD_eq_getElem?_getD, hv]
    rfl
  simp only [State.resumeInit, hread]

/-- Settles O54: by the byte the round trip left in RPL[2], and for 0xFF by the budget. -/
theorem initRoundTripOutcome : Obligations.InitRoundTripOutcome := by
  unfold Obligations.InitRoundTripOutcome
  intro s e a v ht hc hend hv hroom
  obtain ⟨hstep, he⟩ := step_ends_roundTrip ht hc hend
  have hcfg : e.cfg = s.cfg := by rw [← he, endRoundTrip_cfg, drawTurn_cfg]
  rw [hstep, resumeInit_of_byte ((congrArg (·[2]?) (drawTurn_rpl s)).trans hv), he]
  refine ⟨?_, fun hsilent hleft => ?_, fun hzero hsilent => ?_⟩
  · rintro (rfl | ⟨rfl, hlast⟩)
    · rfl
    · exact congrArg Host.Outcome.next (initLoop_of_exhausted (hlast.trans (congrArg Params.initRetries hcfg).symm))
  · subst hsilent
    rw [← hcfg] at hroom hleft ⊢
    exact congrArg Host.Outcome.next (initLoop_of_budget hroom hleft)
  · rw [if_neg hzero, if_neg hsilent]

/-! ### INIT's first segment (R240) -/

theorem runInit_of_open {s : State} (h : s.timerId ≠ none) : s.runInit = s.finish .alreadyOpen 0 [] :=
  if_pos (isOpen_iff.2 h)

theorem runInit_of_no_timer {s : State} (h : s.timerId = none) (hp : s.drawProbe.1 = none) :
    s.runInit = s.drawProbe.2.finish .resourceUnavailable 0 [] := by
  simp [State.runInit, isOpen_eq_false h, hp, State.finishWith]

theorem runInit_of_timer {s : State} {id : TimerId} (h : s.timerId = none) (hp : s.drawProbe.1 = some id) :
    s.runInit = (s.drawProbe.2.openCore id).initLoop 0 := by
  simp [State.runInit, isOpen_eq_false h, hp]

/-- R17: a probe changes nothing but the environment's draws. -/
theorem drawProbe_eq (s : State) : s.drawProbe.2 = { s with env := s.drawProbe.2.env } := by
  obtain ⟨e, he, -⟩ := drawProbe_state s
  rw [he]

/-- R240: INIT's loop starts from the parameters the core was built with. -/
theorem openCore_drawProbe_cfg (s : State) (id : TimerId) : (s.drawProbe.2.openCore id).cfg = s.cfg := by
  rw [openCore_cfg, drawProbe_cfg]

/-- Settles O52: the loop's first round trip, from the buffers just cleared. -/
theorem initOpensTheCore : Obligations.InitOpensTheCore := by
  unfold Obligations.InitOpensTheCore
  intro s id hclosed hprobe hbudget hroom
  have hcfg := openCore_drawProbe_cfg s id
  rw [← hcfg] at hroom hbudget
  refine congrArg Host.Outcome.next ((runInit_of_timer hclosed hprobe).trans ?_)
  rw [initLoop_of_budget hroom hbudget.symm, drawProbe_eq]
  simp [State.framed, State.openCore]

/-- Settles O53: open, without a timer, and with the loop's budget 0. -/
theorem initTurnedAway : Obligations.InitTurnedAway := by
  unfold Obligations.InitTurnedAway
  refine fun s => ⟨fun hopen => ?_, fun hclosed hprobe => ?_, fun hclosed hprobe hbudget => ?_⟩
  · exact congrArg Host.Outcome.next (runInit_of_open hopen)
  · exact congrArg Host.Outcome.next (runInit_of_no_timer hclosed hprobe)
  · obtain ⟨id, hid⟩ := Option.ne_none_iff_exists'.1 hprobe
    have hcfg := openCore_drawProbe_cfg s id
    rw [← hcfg] at hbudget
    refine congrArg Host.Outcome.next ((runInit_of_timer hclosed hid).trans ?_)
    rw [initLoop_of_exhausted hbudget.symm, drawProbe_eq]
    rfl

/-! ### SHUTDOWN (R242) -/

/-- Settles O55: SHUTDOWN tests TIMER_ID. -/
theorem shutdownResult : Obligations.ShutdownResult := by
  unfold Obligations.ShutdownResult
  refine fun s => ⟨fun hopen => ?_, fun hclosed => ?_⟩
  · exact congrArg Host.Outcome.next (if_pos (isOpen_iff.2 hopen))
  · exact congrArg Host.Outcome.next (if_neg (mt isOpen_iff.1 (not_not.2 hclosed)))

/-! ### SETRATE (R243) -/

/-- R8: RATE_FN answers a rate with the first point listed for it. -/
theorem rateFn_of_first {p : Params} {e : RateEntry} {more : List RateEntry} (h : p.rateTable = e :: more) :
    rateFn p e.rate = (e.divider, e.achieved) := by simp [rateFn, h]

/-- Settles O56: rate 0 is tested first. -/
theorem setrateResult : Obligations.SetrateResult := by
  unfold Obligations.SetrateResult
  refine fun s r hopen => ⟨fun hr => ?_, fun hr => ?_, fun e more htable hrate => hrate ▸ rateFn_of_first htable⟩
  · exact congrArg Host.Outcome.next ((whenOpen_of_open hopen _).trans (if_neg hr))
  · exact congrArg Host.Outcome.next ((whenOpen_of_open hopen _).trans (if_pos hr))

/-! ### WAIT (R245) -/

/-- Settles O59: the first segment ends at the await, whose condition is TICK_SEEN. -/
theorem waitForATransaction : Obligations.WaitForATransaction := by
  unfold Obligations.WaitForATransaction
  constructor
  · exact fun s hopen => congrArg Host.Outcome.next (whenOpen_of_open hopen _)
  · exact fun s ht hc htick => step_resumes ht hc htick

end Sys2Proof.Machine
end

section
/-! The environment's events (R90, R276 to R278, R281), each when it is enabled, and the absence of traps (R271, R225):
every arm of `exec` and every agent's turn answers a next state. -/

namespace Sys2Proof.Machine

/-! ### Enabled events (R90, R276 to R278) -/

/-- R276: an open, armed and enabled clock fires. -/
theorem timerEvent_of_due {s : State} (hopen : s.timerId ≠ none) (harmed : s.clkArmed = true) (hclk : s.ieClk = true) :
    s.timerEvent = { s with clkArmed := false, clkPend := true } := by
  have hdue : s.timerDue = true := by simp [State.timerDue, isOpen_iff.2 hopen, harmed, hclk]
  exact if_pos hdue

/-- R277: an enabled signal sets its pending bit. -/
theorem linkChangeEvent_of_enabled {s : State} (h : s.ieLnk = true) : s.linkChangeEvent = { s with lnkPend := true } :=
  if_pos h

/-- R278: a link-state change is absorbed by the one already pending. -/
theorem linkChangeEvent_of_pending {s : State} (h : s.lnkPend = true) : s.linkChangeEvent = s := by
  unfold State.linkChangeEvent
  split
  · rw [← h]
  · rfl

theorem drawTurn_lnkPend (s : State) : s.drawTurn.2.lnkPend = s.lnkPend := by
  obtain ⟨e, he, -⟩ := drawTurn_state s
  rw [he]

/-- A draw of a turn adds nothing to the responses the host has read. -/
theorem drawTurn_readByHost (s : State) : s.drawTurn.2.env.readByHost = s.env.readByHost := by
  rcases drawTurn_spec s with ⟨t, ts, -, h⟩ | ⟨-, h⟩ <;> rw [h]

/-- Settles O11: each event's condition is read from the state the turn was drawn from. -/
theorem eventsTakeEffect : Obligations.EventsTakeEffect := by
  unfold Obligations.EventsTakeEffect
  intro s
  obtain ⟨hdarmed, hdclk, hdlnk⟩ := drawTurn_enables s
  refine ⟨fun ht hopen harmed hclk => ?_, fun ht hlnk => ⟨?_, fun hpend => ?_⟩, fun ht => ?_⟩ <;>
    rw [step, ht, takeTurn]
  · rw [← drawTurn_timerId] at hopen
    rw [timerEvent_of_due hopen (hdarmed.trans harmed) (hdclk.trans hclk)]
  · rw [linkChangeEvent_of_enabled (hdlnk.trans hlnk)]
  · rw [linkChangeEvent_of_pending ((drawTurn_lnkPend s).trans hpend)]
  · rw [State.hostReadEvent, drawTurn_readByHost, drawTurn_response]

/-! ### The time-unit pulse (R281) -/

/-- R281: the saturated count fits TU_COUNT, so no bit of it is lost. -/
theorem pulseEvent_tuCount_toNat (s : State) : s.pulseEvent.tuCount.toNat = min (s.tuCount.toNat + 1) 65535 :=
  (BitVec.toNat_ofNat _ _).trans (Nat.mod_eq_of_lt (by omega))

theorem drawTurn_tuCount (s : State) : s.drawTurn.2.tuCount = s.tuCount := by
  obtain ⟨e, he, -⟩ := drawTurn_state s
  rw [he]

/-- Settles O12: the count is the pulse event's. -/
theorem pulseCountsSaturating : Obligations.PulseCountsSaturating := by
  unfold Obligations.PulseCountsSaturating
  intro s ht
  refine ⟨s.drawTurn.2.pulseEvent.tuCount, ?_, ?_⟩
  · rw [step, ht]
    rfl
  · rw [pulseEvent_tuCount_toNat, drawTurn_tuCount]

/-! ### Nothing traps (R271, R225) -/

/-- R271: every arm of `exec` answers a next state; an error is a status in the response. -/
theorem exec_answers_next (i : Instr) (s : State) : ∃ t, exec i s = .next t := by
  cases i <;> exact ⟨_, rfl⟩

/-- R271: a later segment, a command's first segment, an illegal command and a turn that passes. -/
theorem commandTurn_answers_next (s : State) : ∃ t, commandTurn s = .next t := by
  cases hc : s.curCmd with
  | some c => exact ⟨_, commandTurn_waiting hc⟩
  | none =>
    rcases commandTurn_idle hc with ⟨i, rest, -, -, hrun⟩ | ⟨why, rest, -, -, hbad⟩ | ⟨-, hpass⟩
    · rw [hrun]
      exact exec_answers_next i _
    · exact ⟨_, hbad⟩
    · exact ⟨_, hpass⟩

/-- R271, R225: whichever agent has the turn. -/
theorem takeTurn_answers_next (turn : Turn) (s : State) : ∃ t, takeTurn turn s = .next t := by
  cases turn with
  | command => exact commandTurn_answers_next s
  | exchange src => exact ⟨_, exchangeTurn_spec src s⟩
  | hostRead | timer | linkChange | linkReset | pulse => exact ⟨_, rfl⟩

/-- Settles O13: a step is the turn it draws. -/
theorem nothingTraps : Obligations.NothingTraps := by
  unfold Obligations.NothingTraps
  exact ⟨fun s => takeTurn_answers_next s.drawTurn.1 s.drawTurn.2, exec_answers_next⟩

end Sys2Proof.Machine
end
